-- ==== Sys2Proof/Word.lean ====
section
/-! DEFINITION. The words of the part's two ways in: a byte, a device serial and a version number. -/

namespace Sys2Proof

/-- One byte of a request, answer or air frame (chapter 11). -/
abbrev Byte := BitVec 8

/-- A device's 40-bit identity on air (0.6). -/
abbrev Serial := BitVec 40

/-- A settings version or child-list version: 0..255, wrapping from 255 to 0, compared for equality (0.6). -/
abbrev Version := BitVec 8

end Sys2Proof
end

