-- ==== Sys2Proof/Config.lean ====
section
/-! DEFINITION. The values the manual leaves open, as constants without a body: nothing can be proved of
their values, so a claim about the model holds whatever they are. -/

namespace Sys2Proof

/-- The request kind that a MALFORMED answer carries when the transaction holds no request kind byte. Free value, log 9;
R182 says that the kind of a transaction without the leading byte 5A names no request, and noRequestKind makes it so. -/
opaque Config.malformedKind : List Byte → Byte

/-- Whether slot 0, whose close has no command, has closed by the time READ_NETWORK is taken after the beacon and before the
first event of slot 1. Free choice, log 6. -/
opaque Config.slotZeroOver : Nat → Bool

/-- The place of the timing measurement among the steps of a lane slot's close, which R121 leaves without an
order: 0 before step 1, 1 after it, 2 after step 2, 3 after step 3 (read modulo 4). Free choice, log 8. -/
opaque Config.timingPlace : Nat → Nat

/-- The code of a lane entry's role in READ_LANE, which Table 11-1 does not give (0 asks for CURRENT, 1 for
NEXT). Free value, log 10. -/
opaque Config.roleCode : Nat → Byte

/-- The code of the interference state in READ_CHANNEL (0 CLEAR, 1 INTERFERED). Free value, log 10. -/
opaque Config.interferenceCode : Nat → Byte

/-- The code of the commissioning window state in READ_CANDIDATES (0 CLOSED, 1 OPEN). Free value, log 10. -/
opaque Config.windowStateCode : Nat → Byte

/-- The code of the network state in READ_NETWORK (0 HALTED, 1 FORMING, 2 RUNNING, 3 HALTING). Free value,
log 10. -/
opaque Config.networkStateCode : Nat → Byte

/-- The byte that READ_NETWORK sends for a stopped slot position. Free value, log 10. -/
opaque Config.stoppedSlotCode : Byte

/-- The code of a queue entry's kind in READ_QUEUE (the row of Table 7-1, from 0). Free value, log 10. -/
opaque Config.queueKindCode : Nat → Byte

/-- The bytes, none among them, that stand before the presence byte of a READ_QUEUE payload with more than eight fields
that may be absent, given which of those past the eighth hold values: R184's presence byte has bits for eight. Free value,
log 11. -/
opaque Config.queueMorePresence : List Bool → List Byte

/-- Whether RESTORE refuses, for a child that is not a relay, a cadence that the clamp would lower: the last sentence of R10 and
R57 say so, while test 7 of Table 1-7 and R58 leave such a child out. Free choice, log 40. -/
opaque Config.restoreBoundsEveryChild : Bool

end Sys2Proof
end

