-- ==== Sys2Proof/Machine/Bytes.lean ====
section
/-! DEFINITION. Numbers as bytes: most significant byte first, signed numbers in two's complement (chapter 11). -/

namespace Sys2Proof.Machine

/-- One byte of a number. -/
def byte (n : Nat) : Byte := BitVec.ofNat 8 n

/-- A number in two bytes. -/
def bytes2 (n : Nat) : List Byte := [byte (n / 256), byte n]

/-- A serial in five bytes. -/
def bytes5 (s : Serial) : List Byte :=
  [byte (s.toNat / 2 ^ 32), byte (s.toNat / 2 ^ 24), byte (s.toNat / 2 ^ 16), byte (s.toNat / 2 ^ 8), byte s.toNat]

/-- A signed number in one byte. -/
def signed1 (i : Int) : Byte := BitVec.ofInt 8 i

/-- A signed number in two bytes. -/
def signed2 (i : Int) : List Byte := bytes2 (BitVec.ofInt 16 i).toNat

/-- A yes/no field. -/
def flagByte (b : Bool) : Byte := if b then 1 else 0

/-- The number that two bytes stand for. -/
def nat2 (a b : Byte) : Nat := a.toNat * 256 + b.toNat

/-- The serial that five bytes stand for. -/
def serial5 (a b c d e : Byte) : Serial :=
  BitVec.ofNat 40 ((((a.toNat * 256 + b.toNat) * 256 + c.toNat) * 256 + d.toNat) * 256 + e.toNat)

end Sys2Proof.Machine
end

