-- ==== Sys2Proof/Syntax.lean ====
section
/-! DEFINITION. The commands of the part, one constructor per row of spec/opcode_table.json.
Operands of requests are the fields of the request frame as the wire carries them (R182), in request order, an
optional field being absent or a value; the blocks test their ranges. -/

namespace Sys2Proof

/-- The commands the part takes: transactions at the Command Port, the RESET pin, the radio synthesiser's two
answers, received air frames and the events of the Frame Timer. -/
inductive Instr where
  /-- POWER_ON_RESET (R176). -/
  | powerOnReset
  /-- RESET_PULSE: a pulse of the RESET pin (R176). -/
  | resetPulse
  /-- ANSWER_READ: an answer-read transaction in which the host clocks `count` bytes after the leading byte
  (R174). -/
  | answerRead (count : Nat)
  /-- REQUEST_DISCARDED: a request written while the port is WORKING (R174). -/
  | requestDiscarded
  /-- MALFORMED_REQUEST: a request write that cannot be parsed, with every byte of the transaction (R175,
  R182). -/
  | malformedRequest (bytes : List Byte)
  /-- ENROL (R6 to R9). -/
  | enrol (serial : Serial) (kind zone member parent sensitivity indicator cadence : Nat)
  /-- AMEND: the handle and seven optional fields (R13 to R19). -/
  | amend (handle : Nat) (zone member disabled sensitivity indicator cadence parent : Option Nat)
  /-- RETIRE (R20). -/
  | retire (handle : Nat)
  /-- RESTORE: fourteen fields (R10 to R12). -/
  | restore (handle : Nat) (serial : Serial) (kind zone member parent sensitivity indicator cadence lane phase
      version disabled childVersion : Nat)
  /-- READ_RECORD (R26). -/
  | readRecord (handle : Nat)
  /-- FIND_SERIAL (R27). -/
  | findSerial (serial : Serial)
  /-- OPEN_ZONE_PAGE (R28). -/
  | openZonePage (zone : Nat)
  /-- READ_NEXT (R29). -/
  | readNext
  /-- DEFINE_ZONE (R40). -/
  | defineZone (zone mode window disabled : Nat)
  /-- AMEND_ZONE: the zone and three optional fields (R41). -/
  | amendZone (zone : Nat) (mode window disabled : Option Nat)
  /-- DELETE_ZONE (R42). -/
  | deleteZone (zone : Nat)
  /-- READ_ZONE (R43). -/
  | readZone (zone : Nat)
  /-- RESET_CONDITIONS: a zone selector (R52). -/
  | resetConditions (selector : Nat)
  /-- READ_LANE (R67). -/
  | readLane (lane : Nat)
  /-- SNAPSHOT (R99). -/
  | snapshot
  /-- OPEN_COMMISSIONING: two filters and a duration (R131). -/
  | openCommissioning (valueA : Serial) (lengthA enabledA : Nat) (valueB : Serial) (lengthB enabledB duration : Nat)
  /-- CLOSE_COMMISSIONING (R132). -/
  | closeCommissioning
  /-- READ_CANDIDATES (R134). -/
  | readCandidates
  /-- DISMISS_CANDIDATE (R135). -/
  | dismissCandidate (serial : Serial)
  /-- READ_QUEUE (R147). -/
  | readQueue
  /-- CHANGE_CHANNEL (R156). -/
  | changeChannel (index : Nat)
  /-- READ_CHANNEL (R159). -/
  | readChannel
  /-- READ_TIMING (R162). -/
  | readTiming (handle : Nat)
  /-- TAKE_ATTENTION (R168). -/
  | takeAttention
  /-- SET_NOTIFY: a set of causes as a bit mask (R165). -/
  | setNotify (causes : Nat)
  /-- CLEAR_NOTIFY (R165). -/
  | clearNotify (causes : Nat)
  /-- SET_EDGES: optional edge selections (R166). -/
  | setEdges (fire zone link fault : Option Nat)
  /-- ACK_FLAGS: a set of device flags as a bit mask (R171). -/
  | ackFlags (flags : Nat)
  /-- SET_FLAG_NOTIFY (R172). -/
  | setFlagNotify (flags : Nat)
  /-- CLEAR_FLAG_NOTIFY (R172). -/
  | clearFlagNotify (flags : Nat)
  /-- START (R177). -/
  | start
  /-- START_LOCK_OBTAINED: the synthesiser locks within 20 ms (R177). -/
  | startLockObtained
  /-- START_LOCK_TIMEOUT: no lock within 20 ms (R177). -/
  | startLockTimeout
  /-- HALT (R179). -/
  | halt
  /-- SET_PARAMETERS: the ten optional fields of Table 10-6 (R180). -/
  | setParameters (networkId : Option Nat) (plan : Option (List Nat)) (missLimit ceiling floor hysteresis : Option Nat)
      (threshold : Option Int) (agility guard snapshotMode : Option Nat)
  /-- READ_PARAMETERS (R181). -/
  | readParameters
  /-- READ_NETWORK (R181). -/
  | readNetwork
  /-- READ_IDENTITY (R181). -/
  | readIdentity
  /-- BEACON: the start of slot 0 (R148). -/
  | beacon
  /-- UPLINK_FRAME_RECEIVED: a frame whose start is detected `instant` microseconds after the start of the frame
  in progress, at `level` dBm, with all its bytes (R117). -/
  | uplinkFrameReceived (instant : Nat) (level : Int) (bytes : List Byte)
  /-- LANE_SLOT_CLOSE: the close of the lane slot in progress (R121). -/
  | laneSlotClose
  /-- OPEN_SLOT_CLOSE: the close of the open slot in progress (R122). -/
  | openSlotClose
  /-- DOWNLINK_SLOT: the start of slot 18 or of slot 19 (R144). -/
  | downlinkSlot
  /-- FRAME_END, with the level in dBm that the receiver measured over the quiet interval (R55, R153). -/
  | frameEnd (level : Int)
  /-- ZONE_WINDOW_EXPIRY of one zone (R47). -/
  | zoneWindowExpiry (zone : Nat)
  /-- RETIRE_GRACE_EXPIRY of one record (R23). -/
  | retireGraceExpiry (handle : Nat)
  /-- COMMISSIONING_WINDOW_EXPIRY (R132). -/
  | commissioningWindowExpiry
  /-- AUTO_CHANGEOVER: the automatic changeover test of a frame end (R155). -/
  | autoChangeover
  /-- CHANGEOVER_COMPLETE (R157). -/
  | changeoverComplete
  /-- NETWORK_FORMED (R178). -/
  | networkFormed
  /-- NETWORK_HALTED (R179). -/
  | networkHalted
  /-- HYPERFRAME_END (R55, R98). -/
  | hyperframeEnd
  deriving DecidableEq, Repr

end Sys2Proof
end

