-- ==== Sys2Proof/Machine/State.lean ====
section
/-! DEFINITION. The state of the part as plain data: one structure for each block that owns state (Table 0-2),
the answers and air frames that state holds, and the machine right after reset. -/

namespace Sys2Proof.Machine

/-! ### The registry (chapters 1 to 5, 8) -/

/-- What a device is (Table 1-2). -/
inductive Kind where
  | detector | callPoint | relay
  deriving DecidableEq, Repr

/-- Behaviour of a device's indicator (Table 1-3). -/
inductive IndicatorMode where
  | off | alarmOnly | heartbeat
  deriving DecidableEq, Repr

/-- Where a record stands in its life (Table 1-2); RETIRING holds the retire grace, the frames left before the
record is vacated (R21, R23). -/
inductive Lifecycle where
  | pending
  | active
  | retiring (grace : Nat)
  deriving DecidableEq, Repr

/-- The settings record (Table 1-3). -/
structure Settings where
  sensitivity : Nat
  indicator : IndicatorMode
  cadence : Nat
  parent : Nat
  deriving DecidableEq, Repr

/-- An allocation (lane, cadence, phase) of chapter 3 (R59). -/
structure Alloc where
  lane : Nat
  cadence : Nat
  phase : Nat
  deriving DecidableEq, Repr

/-- Which allocation of its owner an entry of the Lane Occupancy Map is (Table 3-5). -/
inductive Role where
  | current | next
  deriving DecidableEq, Repr

/-- The link state (Table 4-4). -/
inductive LinkState where
  | unheard | linked | marginal | lost | unreachable
  deriving DecidableEq, Repr

/-- The result of an outcome (R73). -/
inductive Result where
  | heard | missed
  deriving DecidableEq, Repr

/-- The link block and tallies of a record (Table 4-1); `history` is newest first. -/
structure LinkBlock where
  state : LinkState
  lqf : Option Nat
  missRun : Nat
  history : List Result
  live : Nat
  saturated : Bool
  snap : Nat
  snapSaturated : Bool
  deriving DecidableEq, Repr

/-- A reported fire state (Table 2-1). -/
inductive FireState where
  | none | prealarm | alarm
  deriving DecidableEq, Repr

/-- A fault set (Table 2-1): bit 0 SENSOR_FAULT, bit 1 BATTERY_LOW, bit 2 TAMPER, bit 3 CONTAMINATED (11.1). -/
abbrev FaultSet := BitVec 4

/-- The condition block of a record (Table 2-1); `latched` is the fire latch, true for ALARM. -/
structure Condition where
  fire : FireState
  latched : Bool
  lastSeq : Option Nat
  faults : FaultSet
  battery : Option Nat
  reportedVersion : Option Version
  deriving DecidableEq, Repr

/-- The timing fields of a direct record (Table 8-5), in microseconds. -/
structure Timing where
  last : Int
  offsetMin : Int
  offsetMax : Int
  deriving DecidableEq, Repr

/-- The route fields of a relay record (Table 5-1); the child list is computed from the records that name the
relay as their parent (R101). -/
structure Route where
  version : Version
  reported : Option Version
  staleRun : Nat
  deriving DecidableEq, Repr

/-- A detector record: its body and the field groups of Table 1-1. `route` is present for records of kind RELAY
alone, `current` and `next` for records with parent 0 alone (R62). -/
structure Record where
  serial : Serial
  kind : Kind
  zone : Nat
  member : Nat
  lifecycle : Lifecycle
  settings : Settings
  version : Version
  disabled : Bool
  current : Option Alloc
  next : Option Alloc
  link : LinkBlock
  cond : Condition
  timing : Option Timing
  route : Option Route
  deriving DecidableEq, Repr

/-- A table of entries by number (record slots by handle, zones by number): pairs in strictly rising order of
their numbers; a number that is not listed is VACANT or undefined. -/
abbrev Tbl (α : Type) := List (Nat × α)

/-! ### The Zone Table (chapter 2) -/

/-- A zone's dependency mode (Table 2-3). -/
inductive ZoneMode where
  | single | coincidence | doubleKnock
  deriving DecidableEq, Repr

/-- The zone's decision (Table 2-3). WAITING holds the first knocker, whether its record has been vacated since
it knocked (R44: a new record of the same handle is then a different member), and the window remaining. -/
inductive ZoneState where
  | quiet
  | prealarm
  | waiting (first : Nat) (firstVacated : Bool) (remaining : Nat)
  | fire
  deriving DecidableEq, Repr

/-- A defined zone (Table 2-3); its member list is computed from the records that name it (R3). -/
structure Zone where
  mode : ZoneMode
  window : Nat
  disabled : Bool
  state : ZoneState
  deriving DecidableEq, Repr

/-! ### Frame Timer (chapter 3) -/

/-- The steps of one frame end that are still to be taken when FRAME_END has been. `formed`: the network is to
become RUNNING (R178); `halted`: it is to enter HALTED (R179); `autoTest`: the automatic changeover test is to be
made (R155); `hyper`: the hyperframe end follows (R55). -/
structure FrameEndDue where
  formed : Bool
  halted : Bool
  autoTest : Bool
  hyper : Bool
  deriving DecidableEq, Repr

/-- Where the Frame Timer stands in the fixed sequence of a frame (R55). `beaconDue`: a START has begun frame 0 and
its slot 0 has not opened. `inSlot s`: slot s is in progress and its start event has been taken. `downlinkDue`: slot
17 has closed and the start of slot 18 is at hand. `frameEnd`: the frame end has been produced and the next frame
has not begun. -/
inductive TimerPhase where
  | stopped
  | beaconDue
  | inSlot (slot : Nat)
  | downlinkDue
  | frameEnd (due : FrameEndDue)
  deriving DecidableEq, Repr

/-- The Frame Timer (Table 3-1). -/
structure Timer where
  frame : Nat
  phase : TimerPhase
  deriving DecidableEq, Repr

/-! ### Uplink frames and the Uplink Receiver (chapter 6) -/

/-- The report of a check-in or roll-call entry (2.2). -/
structure Report where
  fire : FireState
  seq : Nat
  faults : FaultSet
  battery : Nat
  version : Version
  deriving DecidableEq, Repr

/-- A roll-call entry as it stands in the frame (Table 5-2, Table 11-6): raw values, which R105 judges. -/
structure RollEntry where
  child : Nat
  relay : Nat
  heard : Bool
  hasVersion : Bool
  margin : Nat
  fire : Nat
  seq : Nat
  faults : Nat
  battery : Nat
  version : Version
  childVersion : Version
  deriving DecidableEq, Repr

/-- A roll-call: the relay's reported child-list version and the entries (5.3). -/
structure RollCall where
  version : Version
  entries : List RollEntry
  deriving DecidableEq, Repr

/-- An uplink frame that has passed the integrity check (Table 11-6). -/
inductive Uplink where
  | checkIn (handle : Nat) (report : Report) (roll : Option RollCall)
  | alarm (origin via : Nat) (fire : FireState) (seq : Nat)
  | join (serial : Serial) (kind : Kind) (via : Nat)
  | leaving (handle : Nat)
  deriving DecidableEq, Repr

/-- A frame accepted in a slot and waiting for that slot to close (6.1), with its received level in dBm, its arrival
offset in microseconds, and whether the record that sent it has been vacated since (R66: a frame accepted for a
record counts for no other record). -/
structure Held where
  slot : Nat
  frame : Uplink
  level : Int
  offset : Int
  senderVacated : Bool
  deriving DecidableEq, Repr

/-! ### Commissioning Filter (chapter 6) -/

/-- A serial filter (Table 6-4). -/
structure Filter where
  value : Serial
  length : Nat
  enabled : Bool
  deriving DecidableEq, Repr

/-- A Candidate Table entry (Table 6-5). -/
structure Candidate where
  serial : Serial
  kind : Kind
  via : Nat
  margin : Nat
  attempts : Nat
  frame : Nat
  deriving DecidableEq, Repr

/-- The Commissioning Filter (Table 6-3). `window` is the frames remaining while OPEN and absent while CLOSED;
`candidates` is oldest first. -/
structure Commissioning where
  filterA : Filter
  filterB : Filter
  window : Option Nat
  candidates : List Candidate
  deriving DecidableEq, Repr

/-! ### Downlink Queue (chapter 7) -/

/-- The kind of a downlink message with what its entry stores at request (Table 7-1). -/
inductive Msg where
  | alarmAck (seq : Nat)
  | joinGrant
  | rearm
  | retireNotice
  | settings
  | routeUpdate
  | timeCorrection (offset : Int)
  deriving DecidableEq, Repr

/-- A queue entry (Table 7-2). -/
structure QueueEntry where
  dest : Nat
  msg : Msg
  deriving DecidableEq, Repr

/-- The fields of the beacon (Table 7-4); `running` is the network phase. -/
structure Beacon where
  frame : Nat
  running : Bool
  countdown : Nat
  target : Nat
  commissioning : Bool
  deriving DecidableEq, Repr

/-- The body of a downlink message as transmitted (Table 11-6): what Table 7-1 reads at transmission. -/
inductive DownBody where
  | alarmAck (seq : Nat)
  | joinGrant (serial : Serial) (handle : Nat) (alloc : Option Alloc) (settings : Settings) (version : Version)
  | rearm
  | retireNotice
  | settings (alloc : Option Alloc) (settings : Settings) (version : Version)
  | routeUpdate (version : Version) (pairs : List (Nat × Serial))
  | timeCorrection (offset : Int)
  deriving DecidableEq, Repr

/-- What the part puts on the air: the beacon, or a downlink message with its first hop and final destination
(R137). -/
inductive AirFrame where
  | beacon (b : Beacon)
  | downlink (firstHop dest : Nat) (body : DownBody)
  deriving DecidableEq, Repr

/-- A transmission: the channel it goes out on, the network identity it carries, and the frame. -/
structure Transmission where
  channel : Nat
  networkId : Nat
  frame : AirFrame
  deriving DecidableEq, Repr

/-! ### Channel Monitor (chapter 8) -/

/-- A pending changeover (Table 8-1): the countdown 1..8, the target index, and whether the last beacon showed 1, so
that the changeover completes at the end of this frame (R157). -/
structure Changeover where
  countdown : Nat
  target : Nat
  shownLast : Bool
  deriving DecidableEq, Repr

/-- The Channel Monitor (Table 8-1) but for the channel plan, which stands in the parameter set. In `history` true is
BUSY, newest first; `changeover` is absent while the countdown is 0. -/
structure Monitor where
  index : Nat
  history : List Bool
  interfered : Bool
  persistence : Nat
  changeover : Option Changeover
  deriving DecidableEq, Repr

/-! ### Attention Unit (chapter 9) -/

/-- What an attention entry concerns (Table 9-1). -/
inductive Target where
  | record (handle : Nat)
  | zone (zone : Nat)
  deriving DecidableEq, Repr

/-- The cause marks (Table 9-2). -/
inductive Mark where
  | fireOnset | fireClearing | zoneOnset | zoneClearing | linkOnset | linkClearing | faultOnset | faultClearing
  | settings | lifecycle
  deriving DecidableEq, Repr

/-- A set of cause marks, in the bit order of 11.1: bits 0 to 7 the onset and clearing of FIRE, ZONE, LINK and FAULT,
bit 8 SETTINGS, bit 9 LIFECYCLE. -/
abbrev MarkSet := BitVec 10

/-- A set of causes, in the bit order of 11.1: FIRE, ZONE, LINK, FAULT, SETTINGS, LIFECYCLE. -/
abbrev CauseSet := BitVec 6

/-- An attention entry (Table 9-1); `urgent` is its class. -/
structure AttnEntry where
  target : Target
  marks : MarkSet
  urgent : Bool
  deriving DecidableEq, Repr

/-- An edge selection (R164). -/
inductive EdgeSel where
  | onsetOnly | both
  deriving DecidableEq, Repr

/-- The edge selections of the four causes that have edges (R164). -/
structure Edges where
  fire : EdgeSel
  zone : EdgeSel
  link : EdgeSel
  fault : EdgeSel
  deriving DecidableEq, Repr

/-- The device flags (Table 9-3). -/
inductive Flag where
  | interferenceOnset | interferenceCleared | channelChanged | queueOverflow | snapshotTaken | tallySaturated
  | candidate | formed | radioFault | halted
  deriving DecidableEq, Repr

/-- A set of device flags, in the order of Table 9-3 from bit 0 (11.1). -/
abbrev FlagSet := BitVec 10

/-- The Attention Unit: the Attention List, the cause enables and edge selections, the device flags and their enable
mask. -/
structure Attention where
  entries : List AttnEntry
  enables : CauseSet
  edges : Edges
  flags : FlagSet
  mask : FlagSet
  deriving DecidableEq, Repr

/-! ### Network Controller (chapter 10) -/

/-- The network state (Table 10-5). -/
inductive NetState where
  | halted | forming | running | halting
  deriving DecidableEq, Repr

/-- The ten network parameters (Table 10-6); `snapshotAuto` is the snapshot mode. -/
structure Params where
  networkId : Nat
  plan : List Nat
  missLimit : Nat
  ceiling : Nat
  floor : Nat
  hysteresis : Nat
  threshold : Int
  agility : Bool
  guard : Nat
  snapshotAuto : Bool
  deriving DecidableEq, Repr

/-- The radio synthesiser as START drives it (R177). -/
inductive Synth where
  | off | seeking | locked
  deriving DecidableEq, Repr

/-- The Network Controller (Table 10-5). -/
structure Network where
  state : NetState
  formingCount : Nat
  params : Params
  synth : Synth
  deriving DecidableEq, Repr

/-! ### Command Port and its answers (chapter 10) -/

/-- The result codes (Table 10-3), in its order. -/
inductive ResultCode where
  | ok | adjusted | malformed | outOfRange | wrongState | busy | empty | endOfPage | noSuchRecord | noSuchZone | noCursor
  | full | duplicateSerial | addressTaken | handleTaken | badParent | routeFull | hasChildren | zoneNotEmpty | noCapacity
  | slotConflict | limitViolation | radioFault
  deriving DecidableEq, Repr

/-- How an ADJUSTED answer marks a field (Table 10-3). -/
inductive Adjust where
  | held | clamped
  deriving DecidableEq, Repr

/-- An entry of a lane's list (Table 3-5). -/
structure LaneEntry where
  owner : Nat
  role : Role
  alloc : Alloc
  deriving DecidableEq, Repr

/-- A queue entry as READ_QUEUE gives it (R147): its position from 1, the entry, and its first hop. -/
structure QueueView where
  position : Nat
  entry : QueueEntry
  firstHop : Nat
  deriving DecidableEq, Repr

/-- The summary of a TAKE_ATTENTION answer (R169). -/
inductive Summary where
  | vacant
  | record (lifecycle : Lifecycle) (kind : Kind) (zone member : Nat) (disabled : Bool) (link : LinkState)
      (fire : FireState) (latched : Bool) (faults : FaultSet) (battery : Option Nat) (version : Version)
      (reported : Option Version)
  | undefinedZone
  | zone (z : Zone) (members : Nat)
  deriving DecidableEq, Repr

/-- What an answer carries besides its result (R184 and the rule of each request). -/
inductive Payload where
  | none
  /-- The position of a refused field (Table 10-3). -/
  | position (n : Nat)
  /-- The member count of ZONE_NOT_EMPTY, and of OPEN_ZONE_PAGE (R28, R42). -/
  | members (n : Nat)
  /-- The first offending handle of LIMIT_VIOLATION (Table 10-3). -/
  | offender (handle : Nat)
  /-- BUSY: current index, countdown, target index. -/
  | busy (index countdown target : Nat)
  /-- ENROL (R9): handle, granted cadence, and the allocation of a direct record. -/
  | enrolled (handle cadence : Nat) (alloc : Option Alloc)
  /-- AMEND (R15): fields changed and the settings version. -/
  | amended (changed : Nat) (version : Version)
  /-- RETIRE (R20): the lifecycle after it, absent for VACANT. -/
  | retired (lifecycle : Option Lifecycle)
  /-- READ_RECORD (R26): the record and its child list. -/
  | record (handle : Nat) (r : Record) (children : List Nat)
  /-- FIND_SERIAL (R27). -/
  | found (handle : Nat) (lifecycle : Lifecycle) (kind : Kind) (zone member : Nat)
  /-- READ_NEXT (R29): the zone summary. -/
  | zoneSummary (handle member : Nat) (kind : Kind) (lifecycle : Lifecycle) (link : LinkState) (latched : Bool)
      (fire : FireState) (faults : FaultSet) (disabled : Bool)
  /-- DEFINE_ZONE (R40): the window in force. -/
  | window (w : Nat)
  /-- AMEND_ZONE (R41): fields changed and the zone state. -/
  | zoneAmended (changed : Nat) (state : ZoneState)
  /-- READ_ZONE (R43): the zone and its members as (handle, member). -/
  | zone (z : Zone) (members : List (Nat × Nat))
  /-- RESET_CONDITIONS (R52): zones reset and REARM requests made. -/
  | conditionsReset (zones rearms : Nat)
  /-- READ_LANE (R67): owned cells and entries. -/
  | lane (owned : Nat) (entries : List LaneEntry)
  /-- SNAPSHOT (R99): records whose tallies were taken. -/
  | snapshot (records : Nat)
  /-- OPEN_COMMISSIONING (R131): the duration in force. -/
  | duration (frames : Nat)
  /-- READ_CANDIDATES (R134). -/
  | candidates (window : Option Nat) (entries : List Candidate)
  /-- READ_QUEUE (R147). -/
  | queue (entries : List QueueView)
  /-- CHANGE_CHANNEL (R156): current index, countdown, target index where one is pending. -/
  | channelChange (index countdown : Nat) (target : Option Nat)
  /-- READ_CHANNEL (R159). -/
  | channel (plan : List Nat) (index : Nat) (interfered : Bool) (persistence samples busy16 busyAll countdown : Nat)
      (target : Option Nat)
  /-- READ_TIMING (R162). -/
  | timing (t : Option Timing)
  /-- TAKE_ATTENTION with an entry (R168). -/
  | attention (flags : FlagSet) (entry : AttnEntry) (left : Nat) (summary : Summary)
  /-- The set flags: EMPTY (R168) and ACK_FLAGS (R171); the enabled flags: the two requests of R172. -/
  | flags (f : FlagSet)
  /-- The enabled causes (R165). -/
  | causes (c : CauseSet)
  /-- The edge selections (R166). -/
  | edges (e : Edges)
  /-- The parameter set (R180, R181). -/
  | params (p : Params)
  /-- READ_NETWORK (R181); the slot position is absent while stopped. -/
  | network (state : NetState) (frame : Nat) (slot : Option Nat) (formingCount channel : Nat)
  /-- READ_IDENTITY (R181). -/
  | identity (vendor part revision : Nat)
  deriving DecidableEq, Repr

/-- An answer in the answer buffer (R174): the request kind, the result code, the discarded marker as it stood when the
answer was built, the adjustment list of an ADJUSTED answer (field position and how), and the payload. -/
structure Answer where
  kind : Byte
  result : ResultCode
  discarded : Bool
  adjusted : List (Nat × Adjust)
  payload : Payload
  deriving DecidableEq, Repr

/-- The port state (Table 10-1); the answer buffer is full exactly in ANSWER_READY. -/
inductive PortState where
  | idle
  | working
  | answerReady (answer : Answer)
  deriving DecidableEq, Repr

/-- The Command Port (Table 10-1). `spiOut` is the model's own: the bytes the last answer read clocked out. -/
structure Port where
  state : PortState
  discarded : Bool
  spiOut : List Byte
  deriving DecidableEq, Repr

/-! ### The machine -/

/-- The state of the part, block by block, and the model's own fields `air` (what was transmitted last), `choices`
(where free choices are drawn from) and `pending` (the commands that are waiting, first in first out). -/
structure State where
  records : Tbl Record
  cursor : Option (Nat × Nat)
  zones : Tbl Zone
  timer : Timer
  held : List Held
  markers : List Nat
  commissioning : Commissioning
  queue : List QueueEntry
  monitor : Monitor
  attention : Attention
  port : Port
  network : Network
  air : Option Transmission
  choices : Nat
  pending : List Instr
  deriving DecidableEq, Repr

/-- The reasons a step could stop with a fault: the manual gives the part none. Every refusal of a request is an answer
(10.2), so no meaning faults. -/
inductive Fault where
  deriving DecidableEq, Repr

/-- The reasons a step could be refused. -/
inductive Refusal where
  /-- Raised by exec for a command that has no meaning yet; no arm raises it. Safe: nothing is claimed of such a step. -/
  | notModelled (mnemonic : String)
  deriving DecidableEq, Repr

/-- The parameter defaults (Table 10-6, R176). -/
def Params.reset : Params :=
  { networkId := 1, plan := [0], missLimit := 3, ceiling := 400, floor := 8, hysteresis := 4, threshold := -85,
    agility := false, guard := 1500, snapshotAuto := true }

/-- The Channel Monitor after power-on reset (R151). -/
def Monitor.reset : Monitor :=
  { index := 0, history := [], interfered := false, persistence := 0, changeover := none }

/-- The Attention Unit after power-on reset: empty list, all causes enabled, all edges BOTH (R163, R164), HALTED alone set
(R170) and all flags enabled (R172). -/
def Attention.reset : Attention :=
  { entries := [], enables := BitVec.allOnes 6,
    edges := { fire := .both, zone := .both, link := .both, fault := .both },
    flags := 0b1000000000#10, mask := BitVec.allOnes 10 }

/-- The machine right after power-on reset or a pulse of the RESET pin (R1, R30, R39, R54, R61, R123, R130, R138, R151,
R163, R164, R170, R172, R174, R176). The model's own fields: no transmission, no choice drawn, nothing waiting (log 8, log
22); the synthesiser off (log 23). -/
def State.reset : State :=
  { records := [], cursor := none, zones := [],
    timer := { frame := 0, phase := .stopped },
    held := [], markers := [],
    commissioning :=
      { filterA := { value := 0, length := 0, enabled := false },
        filterB := { value := 0, length := 0, enabled := false },
        window := none, candidates := [] },
    queue := [],
    monitor := Monitor.reset,
    attention := Attention.reset,
    port := { state := .idle, discarded := false, spiOut := [] },
    network := { state := .halted, formingCount := 0, params := Params.reset, synth := .off },
    air := none, choices := 0, pending := [] }

end Sys2Proof.Machine
end

