-- ==== Sys2Proof/Machine/Flags.lean ====
section
/-! DEFINITION. The Attention Unit (chapter 9): device flags, postings and the Attention List, and the ATTN and READY
lines. -/

namespace Sys2Proof.Machine

/-- The bit of a device flag (11.1). -/
def Flag.bit : Flag → Nat
  | .interferenceOnset => 0
  | .interferenceCleared => 1
  | .channelChanged => 2
  | .queueOverflow => 3
  | .snapshotTaken => 4
  | .tallySaturated => 5
  | .candidate => 6
  | .formed => 7
  | .radioFault => 8
  | .halted => 9

/-- The set of one device flag. -/
def Flag.mask (f : Flag) : FlagSet := 1#10 <<< f.bit

/-- The bit of a cause mark (11.1). -/
def Mark.bit : Mark → Nat
  | .fireOnset => 0
  | .fireClearing => 1
  | .zoneOnset => 2
  | .zoneClearing => 3
  | .linkOnset => 4
  | .linkClearing => 5
  | .faultOnset => 6
  | .faultClearing => 7
  | .settings => 8
  | .lifecycle => 9

/-- The set of one cause mark. -/
def Mark.mask (m : Mark) : MarkSet := 1#10 <<< m.bit

/-- The bit of the cause that a mark belongs to, in a set of causes (11.1). -/
def Mark.causeBit : Mark → Nat
  | .fireOnset | .fireClearing => 0
  | .zoneOnset | .zoneClearing => 1
  | .linkOnset | .linkClearing => 2
  | .faultOnset | .faultClearing => 3
  | .settings => 4
  | .lifecycle => 5

/-- Whether a posting of the mark is dropped as a clearing of a cause whose edge selection is ONSET_ONLY (R164). -/
def Mark.droppedByEdge (e : Edges) : Mark → Bool
  | .fireClearing => e.fire == .onsetOnly
  | .zoneClearing => e.zone == .onsetOnly
  | .linkClearing => e.link == .onsetOnly
  | .faultClearing => e.fault == .onsetOnly
  | _ => false

/-- Whether a posting is kept by the filter of R164. -/
def Attention.keeps (a : Attention) (m : Mark) : Bool :=
  a.enables.getLsbD m.causeBit && !m.droppedByEdge a.edges

/-- Entry e at the end of the urgent part of the list (R167). -/
def insertUrgent (l : List AttnEntry) (e : AttnEntry) : List AttnEntry :=
  l.takeWhile (·.urgent) ++ e :: l.dropWhile (·.urgent)

/-- A kept posting applied to the list (R167). -/
def applyPosting (l : List AttnEntry) (t : Target) (m : Mark) (urgent : Bool) : List AttnEntry :=
  match l.find? fun e => e.target == t with
  | none =>
    let e : AttnEntry := { target := t, marks := m.mask, urgent := urgent }
    if urgent then insertUrgent l e else l ++ [e]
  | some e =>
    if urgent && !e.urgent then
      insertUrgent (l.filter fun x => x.target != t) { e with marks := e.marks ||| m.mask, urgent := true }
    else
      l.map fun x => if x.target == t then { x with marks := x.marks ||| m.mask } else x

/-- A posting handed to the Attention Unit (R164, R167); `urgent` is R167's judgement of it. -/
def Attention.post (a : Attention) (t : Target) (m : Mark) (urgent : Bool) : Attention :=
  if a.keeps m then { a with entries := applyPosting a.entries t m urgent } else a

/-- A device flag set (R170); setting a set flag leaves it set. -/
def Attention.raise (a : Attention) (f : Flag) : Attention :=
  { a with flags := a.flags ||| f.mask }

/-- Whether a device flag is set. -/
def Attention.isSet (a : Attention) (f : Flag) : Bool := a.flags.getLsbD f.bit

/-- The ATTN condition (R173): the list holds an entry, or a flag is both set and enabled. -/
def Attention.asserted (a : Attention) : Bool :=
  !a.entries.isEmpty || a.flags &&& a.mask != 0

/-- The ATTN output line (R173). -/
def attnLine (s : State) : Bool := s.attention.asserted

/-- The READY output line: asserted exactly in ANSWER_READY (Table 10-1). -/
def readyLine (s : State) : Bool :=
  match s.port.state with
  | .answerReady _ => true
  | _ => false

end Sys2Proof.Machine
end

