-- ==== Sys2Proof/Machine/Operands.lean ====
section
/-! DEFINITION. The values that request and frame fields stand for: the enumeration codes of Table 11-1, the ranges of
the fields, and the cadence clamp. -/

namespace Sys2Proof.Machine

/-- The kind of a code (Table 11-1). -/
def Kind.ofCode : Nat → Option Kind
  | 0 => some .detector
  | 1 => some .callPoint
  | 2 => some .relay
  | _ => none

/-- The code of a kind (Table 11-1). -/
def Kind.code : Kind → Nat
  | .detector => 0
  | .callPoint => 1
  | .relay => 2

/-- The indicator mode of a code (Table 11-1). -/
def IndicatorMode.ofCode : Nat → Option IndicatorMode
  | 0 => some .off
  | 1 => some .alarmOnly
  | 2 => some .heartbeat
  | _ => none

/-- The code of an indicator mode (Table 11-1). -/
def IndicatorMode.code : IndicatorMode → Nat
  | .off => 0
  | .alarmOnly => 1
  | .heartbeat => 2

/-- The dependency mode of a code (Table 11-1). -/
def ZoneMode.ofCode : Nat → Option ZoneMode
  | 0 => some .single
  | 1 => some .coincidence
  | 2 => some .doubleKnock
  | _ => none

/-- The code of a dependency mode (Table 11-1). -/
def ZoneMode.code : ZoneMode → Nat
  | .single => 0
  | .coincidence => 1
  | .doubleKnock => 2

/-- The fire state of a code (Table 11-1). -/
def FireState.ofCode : Nat → Option FireState
  | 0 => some .none
  | 1 => some .prealarm
  | 2 => some .alarm
  | _ => Option.none

/-- The code of a fire state (Table 11-1). -/
def FireState.code : FireState → Nat
  | .none => 0
  | .prealarm => 1
  | .alarm => 2

/-- The edge selection of a code (Table 11-1). -/
def EdgeSel.ofCode : Nat → Option EdgeSel
  | 0 => some .onsetOnly
  | 1 => some .both
  | _ => none

/-- The code of an edge selection (Table 11-1). -/
def EdgeSel.code : EdgeSel → Nat
  | .onsetOnly => 0
  | .both => 1

/-- A yes/no field: 0 for no and 1 for yes (chapter 11); any other value is out of range. -/
def yesNo : Nat → Option Bool
  | 0 => some false
  | 1 => some true
  | _ => none

/-- The code of a lifecycle; absent is VACANT (Table 11-1). -/
def lifecycleCode : Option Lifecycle → Nat
  | none => 0
  | some .pending => 1
  | some .active => 2
  | some (.retiring _) => 3

/-- The code of a link state (Table 11-1). -/
def LinkState.code : LinkState → Nat
  | .unheard => 0
  | .linked => 1
  | .marginal => 2
  | .lost => 3
  | .unreachable => 4

/-- The code of a zone state (Table 11-1). -/
def ZoneState.code : ZoneState → Nat
  | .quiet => 0
  | .prealarm => 1
  | .waiting _ _ _ => 2
  | .fire => 3

/-- A handle, 1..160 (0.6). -/
def isHandle (n : Nat) : Bool := 1 ≤ n && n ≤ 160

/-- A zone or member number, 1..32 (0.6). -/
def isZone (n : Nat) : Bool := 1 ≤ n && n ≤ 32

/-- A lane, 1..14 (0.6). -/
def isLane (n : Nat) : Bool := 1 ≤ n && n ≤ 14

/-- The cadences, largest first (0.6). -/
def cadences : List Nat := [128, 64, 32, 16, 8, 4, 2, 1]

/-- The largest cadence not greater than the larger of q and 1 (R57 step 1). -/
def cadenceRequested (q : Nat) : Nat :=
  (cadences.find? fun p => p ≤ max q 1).getD 1

/-- The largest cadence P with P × M ≤ C (R57 step 2). -/
def cadenceMax (missLimit ceiling : Nat) : Nat :=
  (cadences.find? fun p => p * missLimit ≤ ceiling).getD 1

/-- The granted cadence of a requested one (R57). -/
def clampCadence (missLimit ceiling q : Nat) : Nat :=
  min (cadenceRequested q) (cadenceMax missLimit ceiling)

/-- Whether the cadence clamp is reported (R57): the granted cadence is smaller than q, or q is 0. -/
def clampReported (missLimit ceiling q : Nat) : Bool :=
  clampCadence missLimit ceiling q < q || q == 0

/-- The margin of a received level (R76): the level plus 112, limited to 0..63. -/
def marginOf (level : Int) : Nat :=
  min (level + 112).toNat 63

/-- v limited to lo..hi (Table 10-6: clamped to the nearer end). -/
def clampInt (lo hi v : Int) : Int :=
  if v < lo then lo else if hi < v then hi else v

/-- The adjustment entry of field `position` when `cond` holds. -/
def adjustedIf (cond : Bool) (position : Nat) (how : Adjust) : List (Nat × Adjust) :=
  if cond then [(position, how)] else []

end Sys2Proof.Machine
end

