-- ==== Sys2Proof/Machine/Table.lean ====
section
/-! DEFINITION. Tables by number, and the sorted lists the blocks keep. -/

namespace Sys2Proof.Machine

/-- The entry at number n, absent when the slot is VACANT or the zone undefined. -/
def Tbl.get {α : Type} : Tbl α → Nat → Option α
  | [], _ => none
  | (k, v) :: t, n => if n = k then some v else Tbl.get t n

/-- The table with entry v at number n, at its place in rising order. -/
def Tbl.set {α : Type} : Tbl α → Nat → α → Tbl α
  | [], n, v => [(n, v)]
  | (k, w) :: t, n, v =>
    if n = k then (k, v) :: t
    else if n < k then (n, v) :: (k, w) :: t
    else (k, w) :: Tbl.set t n v

/-- The table without an entry at number n. -/
def Tbl.drop {α : Type} (t : Tbl α) (n : Nat) : Tbl α :=
  t.filter fun e => e.1 != n

/-- The table with f applied to every entry. -/
def Tbl.mapValues {α : Type} (f : Nat → α → α) (t : Tbl α) : Tbl α :=
  t.map fun e => (e.1, f e.1 e.2)

/-- The canonical form of a table: numbers strictly rising. -/
abbrev Tbl.Canonical {α : Type} (t : Tbl α) : Prop :=
  (t.map Prod.fst).Pairwise (· < ·)

/-- x put into a list that is sorted by key, before the first greater key. -/
def insertBy {α : Type} (key : α → Nat) (x : α) : List α → List α
  | [] => [x]
  | y :: t => if key x < key y then x :: y :: t else y :: insertBy key x t

/-- The list sorted by key, equal keys keeping their order. -/
def sortBy {α : Type} (key : α → Nat) : List α → List α
  | [] => []
  | x :: t => insertBy key x (sortBy key t)

end Sys2Proof.Machine
end

