-- ==== Sys2Proof/Machine/Ops.lean ====
section
/-! DEFINITION. The shared operations over the registry, the relay tree, the Lane Occupancy Map, the Attention Unit and
the Downlink Queue. -/

namespace Sys2Proof.Machine

/-! ### One update per field of State -/

def State.setRecords (s : State) (x : Tbl Record) : State := { s with records := x }
def State.setCursor (s : State) (x : Option (Nat × Nat)) : State := { s with cursor := x }
def State.setZones (s : State) (x : Tbl Zone) : State := { s with zones := x }
def State.setTimer (s : State) (x : Timer) : State := { s with timer := x }
def State.setHeld (s : State) (x : List Held) : State := { s with held := x }
def State.setMarkers (s : State) (x : List Nat) : State := { s with markers := x }
def State.setCommissioning (s : State) (x : Commissioning) : State := { s with commissioning := x }
def State.setQueue (s : State) (x : List QueueEntry) : State := { s with queue := x }
def State.setMonitor (s : State) (x : Monitor) : State := { s with monitor := x }
def State.setAttention (s : State) (x : Attention) : State := { s with attention := x }
def State.setPort (s : State) (x : Port) : State := { s with port := x }
def State.setNetwork (s : State) (x : Network) : State := { s with network := x }
def State.setAir (s : State) (x : Option Transmission) : State := { s with air := x }
def State.setChoices (s : State) (x : Nat) : State := { s with choices := x }

/-! ### Records and zones -/

/-- The record in the slot of handle h; absent when the slot is VACANT (R1). -/
def State.rec? (s : State) (h : Nat) : Option Record := Tbl.get s.records h

/-- The record of handle h changed by f; nothing for a VACANT slot. -/
def State.modRec (s : State) (h : Nat) (f : Record → Record) : State :=
  match s.rec? h with
  | none => s
  | some r => s.setRecords (Tbl.set s.records h (f r))

/-- Zone z of the Zone Table; absent when undefined (R39). -/
def State.zone? (s : State) (z : Nat) : Option Zone := Tbl.get s.zones z

/-- Zone z changed by f; nothing for an undefined zone. -/
def State.modZone (s : State) (z : Nat) (f : Zone → Zone) : State :=
  match s.zone? z with
  | none => s
  | some zn => s.setZones (Tbl.set s.zones z (f zn))

/-- Zone z in the given zone state; no posting is made. -/
def State.setZoneState (s : State) (z : Nat) (st : ZoneState) : State :=
  s.modZone z fun zn => { zn with state := st }

def Record.isPending (r : Record) : Bool := r.lifecycle == .pending
def Record.isActive (r : Record) : Bool := r.lifecycle == .active

def Record.isRetiring (r : Record) : Bool :=
  match r.lifecycle with
  | .retiring _ => true
  | _ => false

/-- A PENDING or ACTIVE record: it is in its zone's member list, its parent's child list, and takes its address
(R3, R101). -/
def Record.isMember (r : Record) : Bool := !r.isRetiring

def Record.isRelay (r : Record) : Bool := r.kind == .relay

/-- The lowest-numbered VACANT slot (R9 step 1). -/
def State.lowestVacant (s : State) : Option Nat :=
  ((List.range 160).map (· + 1)).find? fun h => (s.rec? h).isNone

/-- The handle of the non-vacant record that holds a serial (R2, R27). -/
def State.findSerial (s : State) (serial : Serial) : Option (Nat × Record) :=
  s.records.find? fun e => e.2.serial == serial

/-- Whether a PENDING or ACTIVE record other than `self` holds the address (R3). -/
def State.addressTaken (s : State) (self zone member : Nat) : Bool :=
  s.records.any fun e => e.1 != self && e.2.isMember && e.2.zone == zone && e.2.member == member

/-- A zone's member list as (handle, member), in ascending member order (R3, R44). -/
def State.members (s : State) (z : Nat) : List (Nat × Nat) :=
  sortBy Prod.snd <|
    (s.records.filter fun e => e.2.isMember && e.2.zone == z).map fun e => (e.1, e.2.member)

/-! ### Parents and relays (1.2, 5.2) -/

def State.parentOf (s : State) (h : Nat) : Nat :=
  match s.rec? h with
  | some r => r.settings.parent
  | none => 0

/-- A record's parent chain, from its parent up (5.2); at most two relays (R4). -/
def State.parentChain (s : State) (h : Nat) : List Nat :=
  let p := s.parentOf h
  if p = 0 then []
  else
    let q := s.parentOf p
    if q = 0 then [p] else [p, q]

/-- The first hop of a record (R103): the record itself, or the top relay of its chain. -/
def State.firstHop (s : State) (h : Nat) : Nat := (s.parentChain h).getLast?.getD h

/-- The children of a relay, RETIRING ones included, in ascending handle order (R4). -/
def State.children (s : State) (h : Nat) : List Nat :=
  (s.records.filter fun e => e.2.settings.parent == h).map Prod.fst

/-- A relay's child list: its PENDING and ACTIVE children in ascending handle order (R101). -/
def State.childList (s : State) (h : Nat) : List Nat :=
  (s.records.filter fun e => e.2.settings.parent == h && e.2.isMember).map Prod.fst

/-- A relay's descendants, each child before that child's own children (R4). -/
def State.descendants (s : State) (h : Nat) : List Nat :=
  (s.children h).flatMap fun c => c :: s.children c

/-- Whether a relay's loss cuts the paths through it: its link is LOST or UNREACHABLE. -/
def LinkState.isDown : LinkState → Bool
  | .lost | .unreachable => true
  | _ => false

/-- Whether a record's parent chain holds a relay that is LOST or UNREACHABLE (R89, R113). -/
def State.chainBroken (s : State) (h : Nat) : Bool :=
  (s.parentChain h).any fun p =>
    match s.rec? p with
    | some r => r.link.state.isDown
    | none => false

/-- A record's effective period (R5): the cadence of its own current allocation, or of its top relay's. -/
def State.effectivePeriod (s : State) (h : Nat) : Nat :=
  match s.rec? (s.firstHop h) with
  | some r => (r.current.map Alloc.cadence).getD 1
  | none => 1

/-- A relay's child-list version one up, modulo 256 (R102); nothing when p is 0 or no relay. -/
def State.bumpChildVersion (s : State) (p : Nat) : State :=
  s.modRec p fun r => { r with route := r.route.map fun t => { t with version := t.version + 1 } }

/-- The number of relays that stand between a record's descendants and the record's own parent, the record included:
0 without children, 1 with children, 2 with grandchildren (R4). -/
def State.relayLevels (s : State) (h : Nat) : Nat :=
  if (s.children h).isEmpty then 0
  else if (s.children h).all fun c => (s.children c).isEmpty then 1
  else 2

/-- The BAD_PARENT tests of R4 for parent p of a record of kind k. `self` is the amended record's handle, 0 for
ENROL and RESTORE. No chain may come to hold more than two relays, the record's own included (log 14). -/
def State.badParent (s : State) (self p : Nat) (k : Kind) : Bool :=
  if p = 0 then false
  else
    match s.rec? p with
    | none => true
    | some r =>
      !(r.isRelay && r.isMember)
        || (k == .relay && r.settings.parent != 0)
        || (s.parentChain p).length + 1 + (if self = 0 then 0 else s.relayLevels self) > 2
        || (self != 0 && (p == self || (s.descendants self).contains p))

/-- The ROUTE_FULL tests of R4: p has 12 children other than the record, or p's top relay would carry more than 24
descendants, the record and its own descendants included. -/
def State.routeFull (s : State) (self p : Nat) : Bool :=
  if p = 0 then false
  else
    let mine := if self = 0 then [] else s.descendants self
    let top := s.firstHop p
    let others := (s.descendants top).filter fun h => h != self && !mine.contains h
    ((s.children p).filter (· != self)).length ≥ 12 || others.length + 1 + mine.length > 24

/-! ### Allocations and the Lane Occupancy Map (chapter 3) -/

/-- Whether an allocation owns the cell (lane, frame) (R59). -/
def Alloc.owns (a : Alloc) (lane frame : Nat) : Bool := a.lane == lane && frame % a.cadence == a.phase

/-- The collision rule (R60). -/
def Alloc.collides (a b : Alloc) : Bool :=
  let m := min a.cadence b.cadence
  a.lane == b.lane && a.phase % m == b.phase % m

/-- The entries that one record has in the Lane Occupancy Map (R62). -/
def recordEntries (e : Nat × Record) : List LaneEntry :=
  (e.2.current.map fun a => { owner := e.1, role := Role.current, alloc := a }).toList
    ++ (e.2.next.map fun a => { owner := e.1, role := Role.next, alloc := a }).toList

/-- Every entry of the Lane Occupancy Map (R62: the records' allocation fields are the map's entries). -/
def State.laneEntries (s : State) : List LaneEntry := s.records.flatMap recordEntries

/-- One lane's list, in ascending phase order (3.4). -/
def State.laneList (s : State) (lane : Nat) : List LaneEntry :=
  sortBy (·.alloc.phase) (s.laneEntries.filter (·.alloc.lane == lane))

/-- The first-fit search for cadence P against the entries that are not treated free (R63). -/
def firstFit (entries : List LaneEntry) (P : Nat) : Option Alloc :=
  ((List.range 14).map (· + 1)).findSome? fun lane =>
    (List.range P).findSome? fun phase =>
      let a : Alloc := { lane := lane, cadence := P, phase := phase }
      if entries.any fun e => e.alloc.collides a then none else some a

/-- The owner of a cell and the role of the owning entry (R65). -/
def State.cellOwner (s : State) (lane frame : Nat) : Option (Nat × Role) :=
  (s.laneEntries.find? fun e => e.alloc.owns lane frame).map fun e => (e.owner, e.role)

/-- Whether a record owns a cell of the frame, in any lane, under its current or next allocation (R143). -/
def Record.ownsFrame (r : Record) (frame : Nat) : Bool :=
  (r.current.toList ++ r.next.toList).any fun a => a.owns a.lane frame

/-- A record's announced allocation (R70). -/
def Record.announced (r : Record) : Option Alloc :=
  match r.next with
  | some a => some a
  | none => r.current

/-! ### Records as they are created -/

/-- The link block and tallies of a new record (R72). -/
def LinkBlock.fresh : LinkBlock :=
  { state := .unheard, lqf := none, missRun := 0, history := [], live := 0, saturated := false, snap := 0,
    snapSaturated := false }

/-- The condition block of a new record (R31). -/
def Condition.fresh : Condition :=
  { fire := .none, latched := false, lastSeq := none, faults := 0, battery := none, reportedVersion := none }

/-- The route fields of a new record of kind k (R100). -/
def freshRoute (k : Kind) (version : Version) : Option Route :=
  if k == .relay then some { version := version, reported := none, staleRun := 0 } else none

/-! ### Attention postings -/

/-- A posting handed to the Attention Unit (R164). -/
def State.post (s : State) (t : Target) (m : Mark) (urgent : Bool := false) : State :=
  s.setAttention (s.attention.post t m urgent)

/-- A device flag set (R170). -/
def State.raise (s : State) (f : Flag) : State := s.setAttention (s.attention.raise f)

/-! ### The Downlink Queue (chapter 7) -/

/-- The row of Table 7-1, from 0. -/
def Msg.row : Msg → Nat
  | .alarmAck _ => 0
  | .joinGrant => 1
  | .rearm => 2
  | .retireNotice => 3
  | .settings => 4
  | .routeUpdate => 5
  | .timeCorrection _ => 6

/-- The class of a message kind, 1 served first (Table 7-1). -/
def Msg.rank : Msg → Nat
  | .alarmAck _ => 1
  | .joinGrant => 2
  | .rearm => 3
  | .retireNotice => 4
  | .settings => 5
  | .routeUpdate => 5
  | .timeCorrection _ => 6

/-- Whether two entries have the same final destination and kind (R138). -/
def QueueEntry.samePair (a b : QueueEntry) : Bool := a.dest == b.dest && a.msg.row == b.msg.row

/-- The greatest class number present in the queue, 0 when it is empty. -/
def worstRank (q : List QueueEntry) : Nat := q.foldl (fun m e => max m e.msg.rank) 0

/-- The queue without the last entry of class k (R142). -/
def dropLastOfRank (q : List QueueEntry) (k : Nat) : List QueueEntry :=
  (q.reverse.eraseP fun e => e.msg.rank == k).reverse

/-- An admitted request put to the queue (R140 to R142), and whether it is discarded. -/
def insertRequest (q : List QueueEntry) (e : QueueEntry) : List QueueEntry × Bool :=
  if q.any fun x => x.samePair e then (q.map fun x => if x.samePair e then e else x, false)
  else if q.length < 24 then (q ++ [e], false)
  else if worstRank q > e.msg.rank then (dropLastOfRank q (worstRank q) ++ [e], false)
  else (q, true)

/-- Whether the queue admits a request (R139). -/
def State.admits (s : State) (dest : Nat) (msg : Msg) : Bool :=
  match s.rec? dest with
  | none => false
  | some r =>
    r.link.state != .unreachable
      && !((match s.rec? (s.firstHop dest) with
            | some hop => hop.isRelay && hop.link.state == .lost
            | none => false)
          && !(msg == .joinGrant && r.isPending))

/-- A request handed to the Downlink Queue (R139 to R142); one that is discarded sets QUEUE_OVERFLOW. -/
def State.request (s : State) (dest : Nat) (msg : Msg) : State :=
  if s.admits dest msg then
    let r := insertRequest s.queue { dest := dest, msg := msg }
    let s := s.setQueue r.1
    if r.2 then s.raise .queueOverflow else s
  else s

/-- The purge by final destination (R145). -/
def State.purgeDest (s : State) (h : Nat) : State :=
  s.setQueue (s.queue.filter fun e => e.dest != h)

/-- The purge by first hop (R146), each entry's first hop read at this moment. -/
def State.purgeHop (s : State) (h : Nat) : State :=
  s.setQueue (s.queue.filter fun e => s.firstHop e.dest != h)

end Sys2Proof.Machine
end

