-- ==== Sys2Proof/Machine/PortOps.lean ====
section
/-! DEFINITION. The request exchange (10.1): a request taken, served and answered, or discarded. -/

namespace Sys2Proof.Machine

/-- The outcomes of a command's meaning. -/
abbrev Step := Host.Outcome State Fault Refusal

/-- What a block answers to a request: the result, the adjusted fields and the payload. -/
structure Reply where
  result : ResultCode
  adjusted : List (Nat × Adjust)
  payload : Payload
  deriving DecidableEq, Repr

/-- The answer OK with a payload. -/
def Reply.ok (p : Payload) : Reply := { result := .ok, adjusted := [], payload := p }

/-- The answer OK, or ADJUSTED when some field was held or clamped (Table 10-3). -/
def Reply.okOr (adjusted : List (Nat × Adjust)) (p : Payload) : Reply :=
  { result := if adjusted.isEmpty then .ok else .adjusted, adjusted := adjusted, payload := p }

/-- A refusal without extra content. -/
def Reply.refuse (c : ResultCode) : Reply := { result := c, adjusted := [], payload := .none }

/-- A refusal that carries a field's position. -/
def Reply.refuseAt (c : ResultCode) (position : Nat) : Reply :=
  { result := c, adjusted := [], payload := .position position }

/-- OUT_OF_RANGE with the field's position (Table 10-3). -/
def Reply.outOfRange (position : Nat) : Reply := Reply.refuseAt .outOfRange position

/-- A request write that is discarded while the port is WORKING (Table 10-2). -/
def State.discardRequest (s : State) : State := s.setPort { s.port with discarded := true }

/-- A request taken (Table 10-2): the port becomes WORKING; from ANSWER_READY the unread answer is dropped, READY falls and
the discarded marker is cleared. -/
def State.takeRequest (s : State) : State :=
  s.setPort { s.port with
    state := .working,
    discarded := match s.port.state with
      | .answerReady _ => false
      | _ => s.port.discarded }

/-- The answer to the request in work placed in the buffer, with the discarded marker as it stands (R174). -/
def State.answer (s : State) (kind : Byte) (r : Reply) : State :=
  s.setPort { s.port with
    state := .answerReady
      { kind := kind, result := r.result, discarded := s.port.discarded, adjusted := r.adjusted, payload := r.payload } }

/-- A request of a kind whose block finishes at once: discarded in WORKING, otherwise taken, carried out and answered
(R174). -/
def State.serve (s : State) (kind : Byte) (body : State → State × Reply) : Step :=
  match s.port.state with
  | .working => .next s.discardRequest
  | _ =>
    let r := body s.takeRequest
    .next (r.1.answer kind r.2)

/-- A request that reads the part and changes nothing but the port. -/
def State.serveRead (s : State) (kind : Byte) (reply : State → Reply) : Step :=
  s.serve kind fun s => (s, reply s)

/-- The port after a request of a kind has been taken and answered at once (R174). -/
def Port.answering (p : Port) (kind : Byte) (r : Reply) : Port :=
  let discarded := match p.state with
    | .answerReady _ => false
    | _ => p.discarded
  { p with
    state := .answerReady
      { kind := kind, result := r.result, discarded := discarded, adjusted := r.adjusted, payload := r.payload },
    discarded := discarded }

end Sys2Proof.Machine
end

