-- ==== Sys2Proof/Machine/AttentionCommands.lean ====
section
/-! DEFINITION. The meanings of the attention requests (chapter 9): TAKE_ATTENTION, SET_NOTIFY, CLEAR_NOTIFY, SET_EDGES,
ACK_FLAGS, SET_FLAG_NOTIFY and CLEAR_FLAG_NOTIFY. -/

namespace Sys2Proof.Machine

/-- The summary of a target as it stands (R169). -/
def State.summary (s : State) : Target → Summary
  | .record h =>
    match s.rec? h with
    | none => .vacant
    | some r =>
      .record r.lifecycle r.kind r.zone r.member r.disabled r.link.state r.cond.fire r.cond.latched r.cond.faults
        r.cond.battery r.version r.cond.reportedVersion
  | .zone z =>
    match s.zone? z with
    | none => .undefinedZone
    | some zn => .zone zn (s.members z).length

/-- TAKE_ATTENTION's handling (R168). -/
def State.takeAttention (s : State) : State × Reply :=
  match s.attention.entries with
  | [] => (s, { result := .empty, adjusted := [], payload := .flags s.attention.flags })
  | e :: rest =>
    (s.setAttention { s.attention with entries := rest },
      .ok (.attention s.attention.flags e rest.length (s.summary e.target)))

/-- TAKE_ATTENTION (R168). -/
def execTakeAttention (s : State) : Step := s.serve 24 State.takeAttention

/-- The cause enables replaced and answered (R165); a mask with a bit above the six causes is refused. -/
def State.setEnables (s : State) (mask : Nat) (f : CauseSet → CauseSet → CauseSet) : State × Reply :=
  if 64 ≤ mask then (s, .outOfRange 1)
  else
    let e := f s.attention.enables (BitVec.ofNat 6 mask)
    (s.setAttention { s.attention with enables := e }, .ok (.causes e))

/-- SET_NOTIFY (R165). -/
def execSetNotify (causes : Nat) (s : State) : Step := s.serve 25 fun s => s.setEnables causes fun e m => e ||| m

/-- CLEAR_NOTIFY (R165). -/
def execClearNotify (causes : Nat) (s : State) : Step := s.serve 26 fun s => s.setEnables causes fun e m => e &&& ~~~m

/-- An optional edge field that is out of range (R166). -/
def badEdge (e : Option Nat) : Bool := e.any fun c => (EdgeSel.ofCode c).isNone

/-- An edge selection after an optional field (R166). -/
def edgeAfter (e : Option Nat) (old : EdgeSel) : EdgeSel := (e.bind EdgeSel.ofCode).getD old

/-- SET_EDGES' handling (R166). Of several fields out of range the lowest position is answered (log 36). -/
def State.applyEdges (s : State) (fire zone link fault : Option Nat) : State × Reply :=
  if badEdge fire then (s, .outOfRange 1)
  else if badEdge zone then (s, .outOfRange 2)
  else if badEdge link then (s, .outOfRange 3)
  else if badEdge fault then (s, .outOfRange 4)
  else
    let old := s.attention.edges
    let e : Edges :=
      { fire := edgeAfter fire old.fire, zone := edgeAfter zone old.zone, link := edgeAfter link old.link,
        fault := edgeAfter fault old.fault }
    (s.setAttention { s.attention with edges := e }, .ok (.edges e))

/-- SET_EDGES (R166). -/
def execSetEdges (fire zone link fault : Option Nat) (s : State) : Step :=
  s.serve 27 fun s => s.applyEdges fire zone link fault

/-- The flags left set by an acknowledgement (R171): while the network is HALTED a named HALTED flag stays set. -/
def acknowledged (halted : Bool) (flags named : FlagSet) : FlagSet :=
  flags &&& ~~~(if halted then named &&& ~~~Flag.halted.mask else named)

/-- ACK_FLAGS' handling (R171). -/
def State.ackFlags (s : State) (mask : Nat) : State × Reply :=
  if 1024 ≤ mask then (s, .outOfRange 1)
  else
    let f := acknowledged (s.network.state == .halted) s.attention.flags (BitVec.ofNat 10 mask)
    (s.setAttention { s.attention with flags := f }, .ok (.flags f))

/-- ACK_FLAGS (R171). -/
def execAckFlags (flags : Nat) (s : State) : Step := s.serve 28 fun s => s.ackFlags flags

/-- The flag enable mask replaced and answered (R172). -/
def State.setMask (s : State) (mask : Nat) (f : FlagSet → FlagSet → FlagSet) : State × Reply :=
  if 1024 ≤ mask then (s, .outOfRange 1)
  else
    let m := f s.attention.mask (BitVec.ofNat 10 mask)
    (s.setAttention { s.attention with mask := m }, .ok (.flags m))

/-- SET_FLAG_NOTIFY (R172). -/
def execSetFlagNotify (flags : Nat) (s : State) : Step := s.serve 29 fun s => s.setMask flags fun a m => a ||| m

/-- CLEAR_FLAG_NOTIFY (R172). -/
def execClearFlagNotify (flags : Nat) (s : State) : Step := s.serve 30 fun s => s.setMask flags fun a m => a &&& ~~~m

end Sys2Proof.Machine
end

