-- ==== Sys2Proof/Machine/Channel.lean ====
section
/-! DEFINITION. The Channel Monitor (chapter 8): sampling and judgement, changeovers, and the meanings of CHANGE_CHANNEL,
READ_CHANNEL, AUTO_CHANGEOVER and CHANGEOVER_COMPLETE. -/

namespace Sys2Proof.Machine

/-- The channel plan (Table 10-6 position 2). -/
def State.plan (s : State) : List Nat := s.network.params.plan

/-- The channel named by the current index (R152). -/
def State.channel (s : State) : Nat := s.plan.getD s.monitor.index 0

/-! ### Frame-end work of the monitor -/

/-- The quiet sample placed first in the history (R153). -/
def sampleStep (threshold level : Int) (history : List Bool) : List Bool :=
  (decide (threshold ≤ level) :: history).take 32

/-- The BUSY samples among the newest n (R154). -/
def busyAmong (n : Nat) (history : List Bool) : Nat := (history.take n).countP (· == true)

/-- Whether a CLEAR band is declared INTERFERED (Table 8-2). -/
def onsetByHistory (history : List Bool) : Bool := 12 ≤ busyAmong 16 history

/-- Whether an INTERFERED band is declared CLEAR (Table 8-2). -/
def clearByHistory (history : List Bool) : Bool := history.length == 32 && busyAmong 32 history ≤ 2

/-- The interference state after the judgement of a history (R154). -/
def judged (interfered : Bool) (history : List Bool) : Bool :=
  if interfered then !clearByHistory history else onsetByHistory history

/-- The persistence count after the judgement (R155). -/
def persistenceStep (interfered : Bool) (count : Nat) : Nat := if interfered then min (count + 1) 255 else 0

/-- The monitor's sample, judgement and persistence update at a frame end (R153 to R155). -/
def Monitor.frameEnd (m : Monitor) (threshold level : Int) : Monitor :=
  let history := sampleStep threshold level m.history
  let interfered := judged m.interfered history
  { m with history := history, interfered := interfered, persistence := persistenceStep interfered m.persistence }

/-- The monitor's work at a frame end, with the device flags of Table 8-2. -/
def State.sampleBand (s : State) (level : Int) : State :=
  let m := s.monitor.frameEnd s.network.params.threshold level
  let before := s.monitor.interfered
  let s := s.setMonitor m
  if m.interfered && !before then s.raise .interferenceOnset
  else if before && !m.interfered then s.raise .interferenceCleared
  else s

/-! ### Changeover -/

/-- A changeover begun (R155, R156): the countdown 8, the persistence count 0. -/
def State.beginChangeover (s : State) (target : Nat) : State :=
  s.setMonitor { s.monitor with
    persistence := 0, changeover := some { countdown := 8, target := target, shownLast := false } }

/-- The conditions of the automatic changeover (R155). -/
def State.autoConditions (s : State) : Bool :=
  s.network.params.agility && 1 < s.plan.length && s.network.state == .running && 40 ≤ s.monitor.persistence
    && s.monitor.changeover.isNone

/-- The next index of the plan, wrapping to 0 (R155). -/
def State.nextIndex (s : State) : Nat := if s.monitor.index + 1 < s.plan.length then s.monitor.index + 1 else 0

/-- AUTO_CHANGEOVER (R155): the test of a frame end, made once; a changeover begins when its conditions all hold. Where no test
is due nothing changes (log 1). -/
def execAutoChangeover (s : State) : Step :=
  match s.timer.phase with
  | .frameEnd due =>
    if due.autoTest then
      let t := s.setTimer { s.timer with phase := .frameEnd { due with autoTest := false } }
      .next (if s.autoConditions then t.beginChangeover s.nextIndex else t)
    else .next s
  | _ => .next s

/-- Whether the changeover completes at this frame end: the frame's beacon showed 1 (R157). -/
def State.completionDue (s : State) : Bool :=
  match s.monitor.changeover with
  | some c => c.shownLast
  | none => false

/-- A changeover completed (R157). -/
def State.completeChangeover (s : State) (target : Nat) : State :=
  (s.setMonitor { Monitor.reset with index := target }).raise .channelChanged

/-- CHANGEOVER_COMPLETE (R157), at the end of the frame whose beacon showed 1; at any other point nothing changes (log 1). -/
def execChangeoverComplete (s : State) : Step :=
  match s.timer.phase, s.monitor.changeover with
  | .frameEnd _, some c => .next (if c.shownLast then s.completeChangeover c.target else s)
  | _, _ => .next s

/-- The countdown as the beacon and the answers show it: 0 when none is pending (Table 8-1). -/
def Monitor.countdown (m : Monitor) : Nat := (m.changeover.map Changeover.countdown).getD 0

/-- The pending target index (Table 8-1). -/
def Monitor.target (m : Monitor) : Option Nat := m.changeover.map Changeover.target

/-- What an OK answer of CHANGE_CHANNEL carries (R156). -/
def State.channelChange (s : State) : Payload :=
  .channelChange s.monitor.index s.monitor.countdown s.monitor.target

/-- CHANGE_CHANNEL's handling (Table 8-3). -/
def State.changeChannel (s : State) (index : Nat) : State × Reply :=
  if s.network.state == .forming || s.network.state == .halting then (s, .refuse .wrongState)
  else if s.plan.length ≤ index then (s, .outOfRange 1)
  else if s.network.state == .halted then
    let s := s.setMonitor { s.monitor with index := index }
    (s, .ok s.channelChange)
  else
    match s.monitor.changeover with
    | some c =>
      (s, { result := .busy, adjusted := [], payload := .busy s.monitor.index c.countdown c.target })
    | none =>
      if index = s.monitor.index then (s, .ok s.channelChange)
      else
        let s := s.beginChangeover index
        (s, .ok s.channelChange)

/-- CHANGE_CHANNEL (R156). -/
def execChangeChannel (index : Nat) (s : State) : Step := s.serve 21 fun s => s.changeChannel index

/-- READ_CHANNEL's answer (R159). -/
def State.readChannel (s : State) : Reply :=
  let m := s.monitor
  .ok (.channel s.plan m.index m.interfered m.persistence m.history.length (busyAmong 16 m.history)
    (busyAmong 32 m.history) m.countdown m.target)

/-- READ_CHANNEL (R159). -/
def execReadChannel (s : State) : Step := s.serveRead 22 State.readChannel

end Sys2Proof.Machine
end

