-- ==== Sys2Proof/Machine/CommissioningCommands.lean ====
section
/-! DEFINITION. The meanings of the commissioning commands (chapter 6): OPEN_COMMISSIONING, CLOSE_COMMISSIONING,
READ_CANDIDATES, DISMISS_CANDIDATE and COMMISSIONING_WINDOW_EXPIRY. -/

namespace Sys2Proof.Machine

/-- The duration in force (R131): held at 120, clamped to 7200. -/
def holdDuration (d : Nat) : Nat := min (max d 120) 7200

/-- The adjustment entry of the duration field (R131). -/
def durationAdjusted (d : Nat) : List (Nat × Adjust) :=
  if d < 120 then [(7, .held)] else if 7200 < d then [(7, .clamped)] else []

/-- OPEN_COMMISSIONING's handling (R131). Of several fields out of range the lowest position is answered (log 36). -/
def State.openCommissioning (s : State) (valueA : Serial) (lengthA enabledA : Nat) (valueB : Serial)
    (lengthB enabledB duration : Nat) : State × Reply :=
  if 40 < lengthA then (s, .outOfRange 2)
  else
    match yesNo enabledA with
    | none => (s, .outOfRange 3)
    | some ea =>
      if 40 < lengthB then (s, .outOfRange 5)
      else
        match yesNo enabledB with
        | none => (s, .outOfRange 6)
        | some eb =>
          (s.setCommissioning { s.commissioning with
              filterA := { value := valueA, length := lengthA, enabled := ea },
              filterB := { value := valueB, length := lengthB, enabled := eb },
              window := some (holdDuration duration) },
            .okOr (durationAdjusted duration) (.duration (holdDuration duration)))

/-- OPEN_COMMISSIONING (R131). -/
def execOpenCommissioning (valueA : Serial) (lengthA enabledA : Nat) (valueB : Serial) (lengthB enabledB duration : Nat)
    (s : State) : Step :=
  s.serve 16 fun s => s.openCommissioning valueA lengthA enabledA valueB lengthB enabledB duration

/-- The window CLOSED, the filters and the Candidate Table kept (R132). -/
def State.closeWindow (s : State) : State := s.setCommissioning { s.commissioning with window := none }

/-- CLOSE_COMMISSIONING (R132). -/
def execCloseCommissioning (s : State) : Step := s.serve 17 fun s => (s.closeWindow, .ok .none)

/-- READ_CANDIDATES (R134). -/
def execReadCandidates (s : State) : Step :=
  s.serveRead 18 fun s => .ok (.candidates s.commissioning.window s.commissioning.candidates)

/-- DISMISS_CANDIDATE's handling (R135). -/
def State.dismissCandidate (s : State) (serial : Serial) : State × Reply :=
  if s.commissioning.candidates.any fun c => c.serial == serial then
    (s.setCommissioning { s.commissioning with
      candidates := s.commissioning.candidates.filter fun c => c.serial != serial }, .ok .none)
  else (s, .refuse .noSuchRecord)

/-- DISMISS_CANDIDATE (R135). -/
def execDismissCandidate (serial : Serial) (s : State) : Step := s.serve 19 fun s => s.dismissCandidate serial

/-- COMMISSIONING_WINDOW_EXPIRY (R132): a window whose frames remaining have reached 0 becomes CLOSED; any other is left as
it stands (log 1). -/
def execCommissioningWindowExpiry (s : State) : Step :=
  .next (if s.commissioning.window == some 0 then s.closeWindow else s)

end Sys2Proof.Machine
end

