-- ==== Sys2Proof/Machine/AirCodec.lean ====
section
/-! DEFINITION. Air frames as bytes (11.4): the CRC, the integrity check that reads an uplink frame (R118), and the bytes of
what the part transmits. -/

namespace Sys2Proof.Machine

/-! ### CRC -/

/-- One bit of the CRC: polynomial x^16 + x^12 + x^5 + 1, no reflection (11.4). -/
def crcBit (crc : BitVec 16) : BitVec 16 :=
  if crc.msb then (crc <<< 1) ^^^ 0x1021#16 else crc <<< 1

/-- One byte of the CRC. -/
def crcByte (crc : BitVec 16) (b : Byte) : BitVec 16 :=
  let x := crc ^^^ (b.setWidth 16 <<< 8)
  crcBit (crcBit (crcBit (crcBit (crcBit (crcBit (crcBit (crcBit x)))))))

/-- The CRC of the bytes from the network identity to the last field: initial value FFFF, no final inversion (11.4). -/
def crc16 (bytes : List Byte) : BitVec 16 := bytes.foldl crcByte 0xFFFF#16

/-! ### Uplink frames -/

/-- A handle or origin field: 1..160 (R118). -/
def frameHandle (b : Byte) : Option Nat := if isHandle b.toNat then some b.toNat else none

/-- A via field: 0..160 (R118). -/
def frameVia (b : Byte) : Option Nat := if b.toNat ≤ 160 then some b.toNat else none

/-- A fault set that names none but the four faults (R118). -/
def frameFaults (b : Byte) : Option FaultSet := if b.toNat ≤ 15 then some (b.setWidth 4) else none

/-- The report fields that follow the handle of a CHECK_IN (Table 11-6). -/
def frameReport (fire seq faults battery version : Byte) : Option Report :=
  match FireState.ofCode fire.toNat, frameFaults faults with
  | some f, some fs =>
    some { fire := f, seq := seq.toNat, faults := fs, battery := battery.toNat, version := version }
  | _, _ => none

/-- The 10-byte entries of a roll-call (Table 11-6); their values are not checked here (R118). -/
def rollEntries : Nat → List Byte → Option (List RollEntry)
  | 0, [] => some []
  | n + 1, c :: y :: fl :: m :: f :: q :: fs :: bt :: v :: cv :: rest =>
    (rollEntries n rest).map fun t =>
      { child := c.toNat, relay := y.toNat, heard := fl.getLsbD 0, hasVersion := fl.getLsbD 1, margin := m.toNat,
        fire := f.toNat, seq := q.toNat, faults := fs.toNat, battery := bt.toNat, version := v,
        childVersion := cv } :: t
  | _, _ => none

/-- The kind and body of an uplink frame (Table 11-6); absent when the kind, the length or a field fails R118. -/
def parseBody : List Byte → Option Uplink
  | [0x01#8, h, f, q, fs, bt, v, 0x00#8] =>
    match frameHandle h, frameReport f q fs bt v with
    | some h, some r => some (.checkIn h r none)
    | _, _ => none
  | 0x01#8 :: h :: f :: q :: fs :: bt :: v :: 0x01#8 :: cv :: n :: rest =>
    match frameHandle h, frameReport f q fs bt v, (if n.toNat ≤ 24 then rollEntries n.toNat rest else none) with
    | some h, some r, some es => some (.checkIn h r (some { version := cv, entries := es }))
    | _, _, _ => none
  | [0x02#8, o, via, f, q] =>
    match frameHandle o, frameVia via, FireState.ofCode f.toNat with
    | some o, some via, some f => some (.alarm o via f q.toNat)
    | _, _, _ => none
  | [0x03#8, a, b, c, d, e, k, via] =>
    match Kind.ofCode k.toNat, frameVia via with
    | some k, some via => some (.join (serial5 a b c d e) k via)
    | _, _ => none
  | [0x04#8, h] => (frameHandle h).map .leaving
  | _ => none

/-- The integrity check (R118): the frame the bytes carry, absent when they are discarded. The bytes are the length byte,
the network identity, the kind and body, and the CRC. -/
def parseUplink (networkId : Nat) (bytes : List Byte) : Option Uplink :=
  match bytes with
  | len :: rest =>
    let body := rest.take (rest.length - 2)
    if len.toNat = rest.length ∧ rest.drop (rest.length - 2) = bytes2 (crc16 body).toNat then
      match body with
      | a :: b :: kindAndBody => if nat2 a b = networkId then parseBody kindAndBody else none
      | _ => none
    else none
  | [] => none

/-! ### What the part transmits -/

/-- The lane, cadence and phase bytes; lane 0 when the allocation is absent (R183). -/
def allocBytes : Option Alloc → List Byte
  | some a => [byte a.lane, byte a.cadence, byte a.phase]
  | none => [0, 0, 0]

/-- The settings as JOIN_GRANT and SETTINGS carry them (Table 11-6). -/
def settingsBytes (t : Settings) : List Byte :=
  [byte t.sensitivity, byte t.indicator.code, byte t.cadence, byte t.parent]

/-- The kind byte of a downlink message (11.4: 21 to 27 in the order of Table 7-1). -/
def DownBody.kindByte : DownBody → Byte
  | .alarmAck _ => 0x21
  | .joinGrant _ _ _ _ _ => 0x22
  | .rearm => 0x23
  | .retireNotice => 0x24
  | .settings _ _ _ => 0x25
  | .routeUpdate _ _ => 0x26
  | .timeCorrection _ => 0x27

/-- The body of a downlink message (Table 11-6). -/
def DownBody.bytes : DownBody → List Byte
  | .alarmAck q => [byte q]
  | .joinGrant s h a t v => bytes5 s ++ [byte h] ++ allocBytes a ++ settingsBytes t ++ [v]
  | .rearm => []
  | .retireNotice => []
  | .settings a t v => allocBytes a ++ settingsBytes t ++ [v]
  | .routeUpdate v ps => [v, byte ps.length] ++ ps.flatMap fun p => byte p.1 :: bytes5 p.2
  | .timeCorrection o => signed2 o

/-- The kind byte and body of an air frame (11.4). -/
def AirFrame.bytes : AirFrame → List Byte
  | .beacon b =>
    [0x10, byte b.frame, flagByte b.running, byte b.countdown, byte b.target, flagByte b.commissioning]
  | .downlink hop dest body => body.kindByte :: byte hop :: byte dest :: body.bytes

/-- The whole frame as transmitted: the length byte, the network identity, the kind and body, and the CRC (11.4). -/
def Transmission.bytes (t : Transmission) : List Byte :=
  let body := bytes2 t.networkId ++ t.frame.bytes
  byte (body.length + 2) :: body ++ bytes2 (crc16 body).toNat

end Sys2Proof.Machine
end

