-- ==== Sys2Proof/Machine/ZoneOps.lean ====
section
/-! DEFINITION. Zone decisions (2.4, 2.5): onsets offered to a zone, the prealarm test, and a zone's change of state with
its ZONE cause. -/

namespace Sys2Proof.Machine

/-- Whether some enabled member of the zone reports PREALARM or ALARM (R47, R48). -/
def State.anyReporting (s : State) (z : Nat) : Bool :=
  s.records.any fun e => e.2.isMember && e.2.zone == z && !e.2.disabled && e.2.cond.fire != .none

/-- Zone z passes into PREALARM, WAITING or FIRE, which posts a ZONE onset (R49). -/
def State.zoneEnters (s : State) (z : Nat) (st : ZoneState) : State :=
  (s.setZoneState z st).post (.zone z) .zoneOnset true

/-- Zone z returns to QUIET by window expiry or the prealarm test, which posts a ZONE clearing (R49). -/
def State.zoneClears (s : State) (z : Nat) : State :=
  (s.setZoneState z .quiet).post (.zone z) .zoneClearing

/-- The prealarm test of zone z (R48). -/
def State.prealarmTest (s : State) (z : Nat) : State :=
  match s.zone? z with
  | some zn => if zn.state == .prealarm && !s.anyReporting z then s.zoneClears z else s
  | none => s

/-- What an alarm onset of record h of kind k makes of a zone's state (R45, R46): the state it enters, absent when it
stays, and whether the knocker is rearmed. A first knocker that an AMEND has renumbered, or moved away and back, since its knock
is the same member (log 37); one vacated since is not (log 16). -/
def alarmDecision (zn : Zone) (h : Nat) (k : Kind) : Option ZoneState × Bool :=
  match zn.state with
  | .fire => (none, false)
  | .waiting first vacated _ =>
    if k == .callPoint then (some .fire, false)
    else if zn.mode == .coincidence && first == h && !vacated then (none, false)
    else (some .fire, false)
  | _ =>
    if k == .callPoint || zn.mode == .single then (some .fire, false)
    else (some (.waiting h false zn.window), zn.mode == .doubleKnock)

/-- The rearm of a first knocker (R45): a REARM is requested, then its reported fire state is set to NONE. -/
def State.rearmKnocker (s : State) (h : Nat) : State :=
  (s.request h .rearm).modRec h fun r => { r with cond := { r.cond with fire := .none } }

/-- An alarm onset of record h offered to zone z (R45, R46). -/
def State.offerAlarm (s : State) (z h : Nat) (k : Kind) : State :=
  match s.zone? z with
  | none => s
  | some zn =>
    match alarmDecision zn h k with
    | (none, _) => s
    | (some st, rearm) =>
      let s := s.zoneEnters z st
      if rearm then s.rearmKnocker h else s

/-- A prealarm onset offered to zone z (R46). -/
def State.offerPrealarm (s : State) (z : Nat) : State :=
  match s.zone? z with
  | some zn => if zn.state == .quiet then s.zoneEnters z .prealarm else s
  | none => s

/-- Whether a record's onsets are offered to its zone (R38): it is a member and enabled, and the zone is defined and
enabled. -/
def State.isOffered (s : State) (r : Record) : Bool :=
  r.isMember && !r.disabled
    && match s.zone? r.zone with
       | some zn => !zn.disabled
       | none => false

/-- A change of the reported fire state of record h to fs (R38, Table 2-2), a call point's PREALARM being NONE (R37). -/
def State.applyFire (s : State) (h : Nat) (reported : FireState) : State :=
  match s.rec? h with
  | none => s
  | some r =>
    let fs := if r.kind == .callPoint && reported == .prealarm then .none else reported
    if fs == r.cond.fire then s
    else
      let offered := s.isOffered r
      let s := s.modRec h fun r =>
        { r with cond := { r.cond with fire := fs, latched := r.cond.latched || fs == .alarm } }
      match fs with
      | .alarm =>
        let s := s.post (.record h) .fireOnset offered
        if offered then s.offerAlarm r.zone h r.kind else s
      | .prealarm =>
        let s := if offered then s.offerPrealarm r.zone else s
        if r.isMember && r.cond.fire == .alarm then s.prealarmTest r.zone else s
      | .none =>
        let s := s.post (.record h) .fireClearing
        if r.isMember then s.prealarmTest r.zone else s

/-- A zone disabled (R50): QUIET, with nothing posted (R49). -/
def State.disableZone (s : State) (z : Nat) : State :=
  s.modZone z fun zn => { zn with disabled := true, state := .quiet }

/-- A zone enabled in QUIET (R50): the alarm onsets of its enabled members that report ALARM are offered in ascending
member order, and then a zone still QUIET with an enabled member that reports PREALARM goes to PREALARM. -/
def State.enableZone (s : State) (z : Nat) : State :=
  let s := s.modZone z fun zn => { zn with disabled := false, state := .quiet }
  let s := (s.members z).foldl
    (fun s m =>
      match s.rec? m.1 with
      | some r => if !r.disabled && r.cond.fire == .alarm then s.offerAlarm z m.1 r.kind else s
      | none => s) s
  if s.records.any fun e => e.2.isMember && e.2.zone == z && !e.2.disabled && e.2.cond.fire == .prealarm then
    s.offerPrealarm z
  else s

/-- A record disabled (R51). -/
def State.disableRecord (s : State) (h : Nat) : State :=
  match s.rec? h with
  | none => s
  | some r => (s.modRec h fun r => { r with disabled := true }).prealarmTest r.zone

/-- A record re-enabled (R51): its reported ALARM or PREALARM is offered to its zone as an onset at that moment. -/
def State.enableRecord (s : State) (h : Nat) : State :=
  let s := s.modRec h fun r => { r with disabled := false }
  match s.rec? h with
  | none => s
  | some r =>
    if s.isOffered r then
      match r.cond.fire with
      | .alarm => s.offerAlarm r.zone h r.kind
      | .prealarm => s.offerPrealarm r.zone
      | .none => s
    else s

end Sys2Proof.Machine
end

