-- ==== Sys2Proof/Machine/LinkOps.lean ====
section
/-! DEFINITION. Vacating a record (1.8), the evaluation of outcomes (chapter 4) and the unreachable and recovery cascades
(5.5). -/

namespace Sys2Proof.Machine

/-- The mark, on every zone waiting with first knocker h, that the knocker's record has been vacated (R44, log 16). -/
def markKnockerVacated (h : Nat) (_ : Nat) (zn : Zone) : Zone :=
  match zn.state with
  | .waiting first v n => if first == h then { zn with state := .waiting first true n } else { zn with state := .waiting first v n }
  | _ => zn

/-- The mark, on a check-in of record h that waits for its slot's close, that its sender has been vacated (R66, log
16). -/
def markSenderVacated (h : Nat) (x : Held) : Held :=
  match x.frame with
  | .checkIn sender _ _ => { x with senderVacated := x.senderVacated || sender == h }
  | _ => x

/-- The slot of h made VACANT: every field of every group becomes absent (R25 steps 1 and 5). -/
def State.dropRecord (s : State) (h : Nat) : State :=
  ((s.setRecords (Tbl.drop s.records h)).setZones (Tbl.mapValues (markKnockerVacated h) s.zones)).setHeld
    (s.held.map (markSenderVacated h))

/-- Vacating a record (R25): its allocations go with it, a PENDING or ACTIVE record leaves its relay's child list and its
zone's member list, its messages are purged, and a LIFECYCLE cause is posted. -/
def State.vacate (s : State) (h : Nat) : State :=
  match s.rec? h with
  | none => s
  | some r =>
    let s := if r.isMember then s.bumpChildVersion r.settings.parent else s
    let s := s.dropRecord h
    let s := if r.isMember then s.prealarmTest r.zone else s
    (s.purgeDest h).post (.record h) .lifecycle

/-! ### Unreachable (4.6, 5.5) -/

/-- Whether R111 moves the record into UNREACHABLE: ACTIVE or RETIRING, and not so already. -/
def Record.canGoUnreachable (r : Record) : Bool := !r.isPending && r.link.state != .unreachable

/-- The link state of record h set; nothing else of its link block changes. -/
def State.setLink (s : State) (h : Nat) (st : LinkState) : State :=
  s.modRec h fun r => { r with link := { r.link with state := st } }

/-- Record h made UNREACHABLE (R89) with its relays' children taken in ascending handle order, depth first (R111); a
record that cannot go is left as it stands, and its children are still looked at (log 15). `fuel` bounds the depth of
the relay tree. -/
def State.goUnreachable : Nat → State → Nat → State
  | 0, s, _ => s
  | fuel + 1, s, h =>
    match s.rec? h with
    | none => s
    | some r =>
      let s :=
        if r.canGoUnreachable then
          ((s.setLink h .unreachable).post (.record h) .linkOnset).purgeDest h
        else s
      let s := if r.isRelay then (s.children h).foldl (goUnreachable fuel) s else s
      if r.canGoUnreachable && r.isRetiring then s.vacate h else s

/-- The children of relay h carried into UNREACHABLE (R111). -/
def State.cutChildren (s : State) (h : Nat) : State := (s.children h).foldl (State.goUnreachable 2) s

/-- Record h returned from UNREACHABLE to UNHEARD if it is ACTIVE and its chain is whole (R90), and its relays' children
after it, depth first (R112). `fuel` bounds the depth of the relay tree. -/
def State.comeBack : Nat → State → Nat → State
  | 0, s, _ => s
  | fuel + 1, s, h =>
    match s.rec? h with
    | none => s
    | some r =>
      let s :=
        if r.isActive && r.link.state == .unreachable && !s.chainBroken h then
          s.modRec h fun r => { r with link := { r.link with state := .unheard, missRun := 0 } }
        else s
      if r.isRelay then (s.children h).foldl (comeBack fuel) s else s

/-- The children of a recovered relay h returned to supervision (R112). -/
def State.restoreChildren (s : State) (h : Nat) : State := (s.children h).foldl (State.comeBack 2) s

/-- The test of one record's parent chain after a change of parent (R91). -/
def State.testReach (s : State) (h : Nat) : State :=
  match s.rec? h with
  | none => s
  | some r =>
    if !r.isActive then s
    else if s.chainBroken h then State.goUnreachable 3 s h
    else if r.link.state == .unreachable then State.comeBack 3 s h
    else s

/-- The tests of R91 after record h has taken a new parent: the record, then its descendants, parents before children. Among
siblings they come in ascending handle order, each with its own children before the next, which R91 leaves open (log 42). -/
def State.testReachFrom (s : State) (h : Nat) : State := (s.descendants h).foldl State.testReach (s.testReach h)

/-! ### Outcomes (4.2 to 4.5) -/

/-- The LQF step (R78). -/
def lqfStep (lqf : Option Nat) (result : Result) (margin : Nat) : Option Nat :=
  match lqf, result with
  | none, .heard => some (16 * margin)
  | none, .missed => none
  | some q, .heard => some ((q : Int) + (16 * (margin : Int) - q) / 8).toNat
  | some q, .missed => some ((q : Int) + (-(q : Int)) / 8).toNat

/-- The miss-run step (R79). -/
def missRunStep (run : Nat) : Result → Nat
  | .heard => 0
  | .missed => min (run + 1) 255

/-- The history step (R80). -/
def historyStep (history : List Result) (result : Result) : List Result := (result :: history).take 8

/-- H8: the HEARD entries of the history (4.1). -/
def h8 (history : List Result) : Nat := history.countP (· == .heard)

/-- The floor F (R81). -/
def Params.floorLevel (p : Params) : Nat := 16 * p.floor

/-- The return level R (R81). -/
def Params.returnLevel (p : Params) : Nat := 16 * (p.floor + p.hysteresis)

/-- Whether an LQF is at or above a level; an absent LQF is not. -/
def lqfAtLeast (lqf : Option Nat) (level : Nat) : Bool :=
  match lqf with
  | some q => level ≤ q
  | none => false

/-- The link state after an outcome (Table 4-5, R82 to R85), from the LQF, miss run and history just formed. -/
def linkStep (p : Params) (st : LinkState) (result : Result) (lqf : Option Nat) (missRun : Nat) (history : List Result) :
    LinkState :=
  let lostNow := result == .missed && p.missLimit ≤ missRun
  match st with
  | .unheard =>
    if result == .heard then (if lqfAtLeast lqf p.floorLevel then .linked else .marginal)
    else if lostNow then .lost else .unheard
  | .linked =>
    if lostNow then .lost else if lqfAtLeast lqf p.floorLevel then .linked else .marginal
  | .marginal =>
    if lostNow then .lost
    else if result == .heard && lqfAtLeast lqf p.returnLevel then .linked else .marginal
  | .lost =>
    if result == .heard && 6 ≤ h8 history then
      (if lqfAtLeast lqf p.returnLevel then .linked else .marginal)
    else .lost
  | .unreachable => .unreachable

/-- The link block after an evaluated outcome (R77): LQF, miss run, history, tally (R96), link state. -/
def LinkBlock.evaluated (p : Params) (b : LinkBlock) (result : Result) (margin : Nat) : LinkBlock :=
  let lqf := lqfStep b.lqf result margin
  let run := missRunStep b.missRun result
  let history := historyStep b.history result
  let full := result == .missed && 65535 ≤ b.live
  { b with
    lqf := lqf, missRun := run, history := history,
    live := if result == .missed && !full then b.live + 1 else b.live,
    saturated := b.saturated || full,
    state := linkStep p b.state result lqf run history }

/-- Record h has entered LOST (R87): its messages are purged, a relay's descendants become UNREACHABLE, a RETIRING record
is vacated. -/
def State.handleLoss (s : State) (h : Nat) (r : Record) : State :=
  let s := s.purgeDest h
  let s := if r.isRelay then (s.purgeHop h).cutChildren h else s
  if r.isRetiring then s.vacate h else s

/-- What follows a change of record h's link state from `before` to `after` by an outcome (R86 to R88). -/
def State.linkChanged (s : State) (h : Nat) (r : Record) (before after : LinkState) : State :=
  if before == after then s
  else
    match after with
    | .lost => (s.post (.record h) .linkOnset).handleLoss h r
    | .marginal =>
      let s := s.post (.record h) .linkOnset
      if before == .lost && r.isRelay then s.restoreChildren h else s
    | .linked =>
      let s := s.post (.record h) .linkClearing
      if before == .lost && r.isRelay then s.restoreChildren h else s
    | _ => s

/-- The evaluation of an outcome of record h (R77). -/
def State.evaluate (s : State) (h : Nat) (result : Result) (margin : Nat) : State :=
  match s.rec? h with
  | none => s
  | some r =>
    let b := r.link.evaluated s.network.params result margin
    let overflow := result == .missed && 65535 ≤ r.link.live
    let s := s.modRec h fun r => { r with link := b }
    let s := if overflow then s.raise .tallySaturated else s
    s.linkChanged h r r.link.state b.state

/-- A PENDING record made ACTIVE by its first heard outcome (R128, R113). -/
def State.activate (s : State) (h : Nat) : State :=
  let s := (s.modRec h fun r => { r with lifecycle := .active }).post (.record h) .lifecycle
  if s.chainBroken h then State.goUnreachable 3 s h else s

/-- Whether an outcome of a record that is not PENDING is evaluated (Table 4-3). -/
def evaluates (net : NetState) (r : Record) (result : Result) : Bool :=
  r.link.state != .unreachable && (result == .heard || net == .running || net == .halting)

/-- An outcome handed to the Supervision Monitor (R73 to R75). -/
def State.handOutcome (s : State) (h : Nat) (result : Result) (margin : Nat) : State :=
  match s.rec? h with
  | none => s
  | some r =>
    if r.isPending && result == .missed then s
    else
      let s := if r.isPending then s.activate h else s
      match s.rec? h with
      | none => s
      | some r => if evaluates s.network.state r result then s.evaluate h result margin else s

/-! ### Tally snapshots (4.9) -/

/-- The link block after a snapshot (R97). -/
def LinkBlock.snapped (b : LinkBlock) : LinkBlock :=
  { b with snap := b.live, live := 0, snapSaturated := b.saturated, saturated := false }

/-- A snapshot of every non-vacant record's tallies (R97). -/
def State.takeSnapshot (s : State) : State :=
  (s.setRecords (Tbl.mapValues (fun _ r => { r with link := r.link.snapped }) s.records)).raise .snapshotTaken

end Sys2Proof.Machine
end

