-- ==== Sys2Proof/Machine/IntakeOps.lean ====
section
/-! DEFINITION. What an accepted uplink frame does: report intake (2.2), arrival offsets (8.4), roll-calls (5.3, 5.4), joins
and candidates (6.2, 6.3). -/

namespace Sys2Proof.Machine

/-! ### Report intake -/

/-- The battery part (R33): above 100 is clamped, 255 is not measured. -/
def batteryStep (old : Option Nat) (reported : Nat) : Option Nat :=
  if reported = 255 then old else some (min reported 100)

/-- The fault part (R34). A second posting of the same mark leaves one mark (9.1), so one posting stands for each
fault gained and one for each lost. -/
def State.intakeFaults (s : State) (h : Nat) (faults : FaultSet) : State :=
  match s.rec? h with
  | none => s
  | some r =>
    let old := r.cond.faults
    let s := s.modRec h fun r => { r with cond := { r.cond with faults := faults } }
    let s := if faults &&& ~~~old != 0 then s.post (.record h) .faultOnset else s
    if old &&& ~~~faults != 0 then s.post (.record h) .faultClearing else s

/-- The settings-version part (R35), with the RETIRE_NOTICE that each report of a RETIRING record requests (R22). -/
def State.intakeVersion (s : State) (h : Nat) (version : Version) : State :=
  match s.rec? h with
  | none => s
  | some r =>
    match r.lifecycle with
    | .pending => s
    | .retiring _ =>
      (s.modRec h fun r => { r with cond := { r.cond with reportedVersion := some version } }).request h .retireNotice
    | .active =>
      let before := r.cond.reportedVersion
      let s := s.modRec h fun r => { r with cond := { r.cond with reportedVersion := some version } }
      if version != r.version then s.request h .settings
      else if before != some r.version then s.post (.record h) .settings
      else s

/-- A full report taken in against record h, in the four parts of R32. -/
def State.intake (s : State) (h : Nat) (rep : Report) : State :=
  let s := s.modRec h fun r => { r with cond := { r.cond with battery := batteryStep r.cond.battery rep.battery } }
  let s := s.intakeFaults h rep.faults
  let s := s.intakeVersion h rep.version
  let s := s.modRec h fun r => { r with cond := { r.cond with lastSeq := some rep.seq } }
  s.applyFire h rep.fire

/-- An ALARM frame taken in against its origin (R36). -/
def State.intakeAlarm (s : State) (origin : Nat) (fire : FireState) (seq : Nat) : State :=
  match s.rec? origin with
  | none => s
  | some r =>
    if fire == .none then s
    else if r.cond.lastSeq == some seq then s.request origin (.alarmAck seq)
    else
      let s := s.modRec origin fun r => { r with cond := { r.cond with lastSeq := some seq } }
      (s.request origin (.alarmAck seq)).applyFire origin fire

/-! ### Arrival offsets -/

/-- The timing fields after a measured offset (R160). -/
def timingStep (t : Option Timing) (offset : Int) : Timing :=
  match t with
  | none => { last := offset, offsetMin := offset, offsetMax := offset }
  | some t => { last := offset, offsetMin := min t.offsetMin offset, offsetMax := max t.offsetMax offset }

/-- Whether an offset lies beyond the guard (R161). -/
def Params.beyondGuard (p : Params) (offset : Int) : Bool := p.guard < offset.natAbs

/-- The arrival offset of a frame of record h handed to the Timing Tracker (R160, R161); a child has no timing fields. -/
def State.measure (s : State) (h : Nat) (offset : Int) : State :=
  match s.rec? h with
  | none => s
  | some r =>
    if r.settings.parent != 0 then s
    else
      let s := s.modRec h fun r => { r with timing := some (timingStep r.timing offset) }
      if s.network.params.beyondGuard offset then s.request h (.timeCorrection offset) else s

/-! ### Roll-calls -/

/-- The entries that are considered: the first of each child handle (R105). -/
def considered : List RollEntry → List RollEntry
  | [] => []
  | e :: t => e :: (considered t).filter fun x => x.child != e.child

/-- The third condition of R105: the values of a heard entry are in range. -/
def RollEntry.valuesOk (e : RollEntry) : Bool :=
  !e.heard || (e.margin ≤ 63 && e.fire ≤ 2 && e.faults ≤ 15)

/-- The first condition of R105: the child is a non-vacant record whose parent is the reporting relay. -/
def State.entryChildOk (s : State) (e : RollEntry) : Bool :=
  match s.rec? e.child with
  | some r => r.settings.parent == e.relay && e.relay != 0
  | none => false

/-- The entries accepted in the first round: those that X0 itself reports (R105). -/
def State.firstRound (s : State) (x0 : Nat) (entries : List RollEntry) : List RollEntry :=
  (considered entries).filter fun e => e.relay == x0 && s.entryChildOk e && e.valuesOk

/-- X0's reporting relay children: those with an accepted heard-yes entry, in ascending handle order (R105). -/
def State.reportingChildren (s : State) (x0 : Nat) (entries : List RollEntry) : List Nat :=
  (s.children x0).filter fun y =>
    (match s.rec? y with
     | some r => r.isRelay
     | none => false)
      && (s.firstRound x0 entries).any fun e => e.child == y && e.heard

/-- The accepted entries in roll-call order, both rounds (R105). -/
def State.acceptedEntries (s : State) (x0 : Nat) (entries : List RollEntry) : List RollEntry :=
  (considered entries).filter fun e =>
    (e.relay == x0 || (s.reportingChildren x0 entries).contains e.relay) && s.entryChildOk e && e.valuesOk

/-- The judgement of one reporting relay (R106): whether it is stale and its stale run before this roll-call. -/
structure RelayJudgement where
  relay : Nat
  stale : Bool
  runBefore : Nat
  deriving DecidableEq, Repr

/-- One reporting relay judged (R106): its reported version is stored, its stale run kept and moved, and a stale relay is
sent a ROUTE_UPDATE. -/
def State.judgeRelay (s : State) (x : Nat) (reported : Option Version) : State × RelayJudgement :=
  match s.rec? x with
  | none => (s, { relay := x, stale := true, runBefore := 0 })
  | some r =>
    match r.route with
    | none => (s, { relay := x, stale := true, runBefore := 0 })
    | some route =>
      let stale := reported != some route.version
      let route' : Route :=
        { route with
          reported := (match reported with | some v => some v | none => route.reported),
          staleRun := if stale then min (route.staleRun + 1) 255 else 0 }
      let s := s.modRec x fun r => { r with route := some route' }
      (if stale then s.request x .routeUpdate else s, { relay := x, stale := stale, runBefore := route.staleRun })

/-- The version that a reporting relay child shows in its accepted entry (R106). -/
def entryVersion (accepted : List RollEntry) (y : Nat) : Option Version :=
  match accepted.find? fun e => e.child == y with
  | some e => if e.hasVersion then some e.childVersion else none
  | none => none

/-- The reporting relays judged one after another (R106). -/
def State.judgeRelays (s : State) : List (Nat × Option Version) → State × List RelayJudgement
  | [] => (s, [])
  | (x, v) :: t =>
    let first := s.judgeRelay x v
    let rest := first.1.judgeRelays t
    (rest.1, first.2 :: rest.2)

/-- The outcome of a child without an accepted heard-yes entry, by its relay's judgement (R108). -/
def State.unreported (s : State) (js : List RelayJudgement) (relay child : Nat) : State :=
  match js.find? fun j => j.relay == relay with
  | none => s
  | some j =>
    if !j.stale || s.network.params.missLimit ≤ j.runBefore then s.handOutcome child .missed 0 else s

/-- The report that a heard roll-call entry carries (Table 5-2). -/
def RollEntry.report (e : RollEntry) : Report :=
  { fire := (FireState.ofCode e.fire).getD .none, seq := e.seq, faults := BitVec.ofNat 4 e.faults, battery := e.battery,
    version := e.version }

/-- One accepted entry taken (R107, R108). -/
def State.takeEntry (js : List RelayJudgement) (s : State) (e : RollEntry) : State :=
  if e.heard then (s.handOutcome e.child .heard e.margin).intake e.child e.report
  else s.unreported js e.relay e.child

/-- The roll-call of relay x0 walked (R104 to R109); no roll-call is walked as one of no entries, in which the relay
reports no version. -/
def State.walk (s : State) (x0 : Nat) (roll : Option RollCall) : State :=
  let entries := match roll with | some rc => rc.entries | none => []
  let accepted := s.acceptedEntries x0 entries
  let others := s.reportingChildren x0 entries
  let silent := (x0 :: others).map fun x => (x, (s.children x).filter fun c => !accepted.any fun e => e.child == c)
  let judged := s.judgeRelays
    ((x0, roll.map RollCall.version) :: others.map fun y => (y, entryVersion accepted y))
  let s := accepted.foldl (State.takeEntry judged.2) judged.1
  silent.foldl (fun s x => x.2.foldl (fun s c => s.unreported judged.2 x.1 c) s) s

/-! ### The close of a lane slot -/

/-- The outcome that cell (lane, frame) gives at its slot's close (R66), `accepted` being the record whose check-in was
accepted in it, and its level. Answers the state and whether the accepted check-in was a heard outcome. -/
def State.cellOutcome (s : State) (lane frame : Nat) (accepted : Option (Nat × Int)) : State × Bool :=
  match s.cellOwner lane frame with
  | none => (s, false)
  | some (owner, role) =>
    match accepted with
    | some (h, level) =>
      if h == owner then (s.handOutcome owner .heard (marginOf level), true)
      else (if role == .current then s.handOutcome owner .missed 0 else s, false)
    | none => (if role == .current then s.handOutcome owner .missed 0 else s, false)

/-- The free place of the timing measurement among the steps of R121 (log 8): drawn only when the measurement has a
request to make, since otherwise it shares nothing with the other steps. -/
def State.timingPlace (s : State) (h : Nat) (offset : Int) : Nat :=
  match s.rec? h with
  | some r =>
    if r.settings.parent == 0 && s.network.params.beyondGuard offset then Config.timingPlace s.choices % 4 else 3
  | none => 3

/-- The hand-over of a check-in at the close of its lane slot (R121): the cell's outcome, report intake, a relay's
roll-call, and the timing measurement at its place. A sender vacated since acceptance gives no heard outcome and is not
measured (R66, R160); its report is taken in against its handle (R32). -/
def State.handCheckIn (s : State) (lane frame h : Nat) (rep : Report) (roll : Option RollCall) (level offset : Int)
    (vacated : Bool) : State :=
  let place := if vacated then 4 else s.timingPlace h offset
  let s := s.setChoices (s.choices + 1)
  let s := if place = 0 then s.measure h offset else s
  let o := s.cellOutcome lane frame (if vacated then none else some (h, level))
  let s := if place = 1 then o.1.measure h offset else o.1
  let s := s.intake h rep
  let s := if place = 2 then s.measure h offset else s
  let s :=
    if o.2 then
      match s.rec? h with
      | some r => if r.isRelay then s.walk h roll else s
      | none => s
    else s
  if place = 3 then s.measure h offset else s

/-! ### Frames of the open slots -/

/-- A handle put among the listening markers, once (R123). -/
def State.mark (s : State) (h : Nat) : State :=
  s.setMarkers (if s.markers.contains h then s.markers else insertBy id h s.markers)

/-- An ALARM handed on (R122). -/
def State.handAlarm (s : State) (origin via : Nat) (fire : FireState) (seq : Nat) (offset : Int) : State :=
  let s := s.intakeAlarm origin fire seq
  match s.rec? origin with
  | none => s
  | some r =>
    let s := s.mark origin
    if via = 0 && r.settings.parent == 0 then s.measure origin offset else s

/-- Whether a filter matches a serial (R133). -/
def Filter.matchesSerial (f : Filter) (serial : Serial) : Bool :=
  f.enabled && serial >>> (40 - f.length) == f.value >>> (40 - f.length)

/-- An unknown JOIN handed to the Commissioning Filter (R133). -/
def State.handUnknownJoin (s : State) (serial : Serial) (kind : Kind) (via : Nat) (level : Int) : State :=
  let c := s.commissioning
  if c.window.isNone || !(c.filterA.matchesSerial serial || c.filterB.matchesSerial serial) then s
  else if c.candidates.any fun e => e.serial == serial then
    s.setCommissioning { c with
      candidates := c.candidates.map fun e =>
        if e.serial == serial then
          { e with attempts := min (e.attempts + 1) 255, margin := marginOf level, frame := s.timer.frame }
        else e }
  else if c.candidates.length < 8 then
    (s.setCommissioning { c with
      candidates := c.candidates ++
        [{ serial := serial, kind := kind, via := via, margin := marginOf level, attempts := 1,
           frame := s.timer.frame }] }).raise .candidate
  else s

/-- A JOIN handed on (R124 to R126, Table 6-2). -/
def State.handJoin (s : State) (serial : Serial) (kind : Kind) (via : Nat) (level : Int) : State :=
  match s.findSerial serial with
  | none => s.handUnknownJoin serial kind via level
  | some (h, r) =>
    match r.lifecycle with
    | .pending => if via == r.settings.parent then (s.request h .joinGrant).mark h else s
    | .active => if r.link.state == .unreachable then s else (s.request h .joinGrant).mark h
    | .retiring _ => s

/-- A LEAVING handed on (R129). -/
def State.handLeaving (s : State) (h : Nat) : State :=
  match s.rec? h with
  | some r => if r.isRetiring then s.vacate h else s
  | none => s

end Sys2Proof.Machine
end

