-- ==== Sys2Proof/Machine/NetworkCommands.lean ====
section
/-! DEFINITION. The Network Controller (chapter 10): the meanings of START and its two ends, HALT, SET_PARAMETERS and the three
reads of R181. -/

namespace Sys2Proof.Machine

/-! ### START -/

/-- START (R177): WRONG_STATE but in HALTED; in HALTED the synthesiser is set seeking lock and the port stays WORKING. -/
def execStart (s : State) : Step :=
  match s.port.state with
  | .working => .next s.discardRequest
  | _ =>
    if s.network.state == .halted then .next (s.takeRequest.setNetwork { s.network with synth := .seeking })
    else .next (s.takeRequest.answer 31 (.refuse .wrongState))

/-- The link block as START reinitialises it, its tallies kept (R93). -/
def LinkBlock.restarted (b : LinkBlock) : LinkBlock :=
  { b with state := .unheard, lqf := none, missRun := 0, history := [] }

/-- A record after START (R93, R100, R160): link block reinitialised, stale run 0, timing fields removed. -/
def Record.restarted (r : Record) : Record :=
  { r with link := r.link.restarted, timing := none, route := r.route.map fun t => { t with staleRun := 0 } }

/-- The start made at the instant of lock (R177). -/
def State.startNetwork (s : State) : State :=
  let s := s.setNetwork { s.network with state := .forming, formingCount := 0, synth := .locked }
  let s := s.setTimer { frame := 0, phase := .beaconDue }
  s.setRecords (Tbl.mapValues (fun _ r => r.restarted) s.records)

/-- START_LOCK_OBTAINED (R177): it answers the START in work; while no START waits nothing changes (log 1). -/
def execStartLockObtained (s : State) : Step :=
  match s.port.state with
  | .working => .next (s.startNetwork.answer 31 (.ok .none))
  | _ => .next s

/-- START_LOCK_TIMEOUT (R177): the synthesiser is turned off and RADIO_FAULT is set and answered; while no START waits
nothing changes (log 1). -/
def execStartLockTimeout (s : State) : Step :=
  match s.port.state with
  | .working =>
    .next (((s.setNetwork { s.network with synth := .off }).raise .radioFault).answer 31 (.refuse .radioFault))
  | _ => .next s

/-! ### HALT -/

/-- The timer's phase when a HALT is taken. Where a frame end has been counted and its change to RUNNING (R178) or the
completion of a changeover (R158) is still to be taken, the HALT comes before that frame end, which is then the last (log 4). -/
def State.haltingPhase (s : State) : TimerPhase :=
  match s.timer.phase with
  | .frameEnd due =>
    .frameEnd (if due.formed || s.completionDue then { due with formed := false, halted := true } else due)
  | p => p

/-- The persistence count when a HALT is taken: 0 where the automatic changeover of a counted frame end is still to begin, as
the frame end comes before the HALT (R155, log 4). -/
def State.haltingPersistence (s : State) : Nat :=
  match s.timer.phase with
  | .frameEnd due => if due.autoTest && s.autoConditions then 0 else s.monitor.persistence
  | _ => s.monitor.persistence

/-- HALT in FORMING or RUNNING (R179, R151): the network becomes HALTING and a pending countdown is cancelled. Where the frame
end has been counted and its steps are not all taken, log 4 says which of the two orders of R158, R178 and R179 the HALT
takes. -/
def State.beginHalt (s : State) : State :=
  let t := s.setNetwork { s.network with state := .halting }
  let t := t.setMonitor { s.monitor with persistence := s.haltingPersistence, changeover := none }
  t.setTimer { s.timer with phase := s.haltingPhase }

/-- HALT's handling (R179). -/
def State.halt (s : State) : State × Reply :=
  if s.network.state == .forming || s.network.state == .running then (s.beginHalt, .ok .none) else (s, .ok .none)

/-- HALT (R179). -/
def execHalt (s : State) : Step := s.serve 32 State.halt

/-! ### SET_PARAMETERS -/

/-- The cadences of a record that R94 examines. -/
def Record.supervisedCadences (r : Record) : List Nat :=
  (if r.settings.parent = 0 then (r.current.map Alloc.cadence).toList ++ (r.next.map Alloc.cadence).toList else [])
    ++ (if r.isRelay then [r.settings.cadence] else [])

/-- The lowest handle whose cadences break P × M ≤ C (R94). -/
def State.firstOffender (s : State) (missLimit ceiling : Nat) : Option Nat :=
  (s.records.find? fun e => e.2.supervisedCadences.any fun P => ceiling < P * missLimit).map Prod.fst

/-- The ten optional fields of SET_PARAMETERS as the wire carries them. -/
structure ParamFields where
  networkId : Option Nat
  plan : Option (List Nat)
  missLimit : Option Nat
  ceiling : Option Nat
  floor : Option Nat
  hysteresis : Option Nat
  threshold : Option Int
  agility : Option Nat
  guard : Option Nat
  snapshotMode : Option Nat
  deriving DecidableEq, Repr

/-- Whether a plan is refused (R152): no channels or more than 4, a number above 15, or one channel twice. -/
def badPlan (l : List Nat) : Bool :=
  l.isEmpty || 4 < l.length || (l.any fun c => 15 < c) || !decide l.Nodup

/-- The field tests in order of position (R180 step 1): the refusal of the first field that fails. -/
def ParamFields.refusal (f : ParamFields) (halted : Bool) : Option Reply :=
  if f.networkId.isSome && !halted then some (.refuseAt .wrongState 1)
  else if f.networkId.any fun n => !(1 ≤ n && n ≤ 65534) then some (.outOfRange 1)
  else if f.plan.isSome && !halted then some (.refuseAt .wrongState 2)
  else if f.plan.any badPlan then some (.outOfRange 2)
  else if f.missLimit.any fun m => !(2 ≤ m && m ≤ 8) then some (.outOfRange 3)
  else if f.ceiling.any fun c => !(32 ≤ c && c ≤ 480) then some (.outOfRange 4)
  else if f.agility.any fun a => (yesNo a).isNone then some (.outOfRange 8)
  else if f.snapshotMode.any fun m => (yesNo m).isNone then some (.outOfRange 10)
  else none

/-- The hysteresis in force after a field (Table 10-6): below 2 held, above 12 clamped. -/
def holdHysteresis (old h : Nat) : Nat := if h < 2 then old else min h 12

/-- The adjusted fields (R180 step 2), listed in order of position (log 38). -/
def ParamFields.adjusted (f : ParamFields) : List (Nat × Adjust) :=
  adjustedIf (f.floor.any fun v => 40 < v) 5 .clamped
    ++ (if f.hysteresis.any fun v => v < 2 then [(6, .held)]
        else adjustedIf (f.hysteresis.any fun v => 12 < v) 6 .clamped)
    ++ adjustedIf (f.threshold.any fun v => v < -100 || -60 < v) 7 .clamped
    ++ adjustedIf (f.guard.any fun v => v < 500 || 3000 < v) 9 .clamped

/-- The parameter set after the request (R180 steps 2 and 4). -/
def ParamFields.apply (f : ParamFields) (p : Params) : Params :=
  { networkId := f.networkId.getD p.networkId,
    plan := f.plan.getD p.plan,
    missLimit := f.missLimit.getD p.missLimit,
    ceiling := f.ceiling.getD p.ceiling,
    floor := (f.floor.map fun v => min v 40).getD p.floor,
    hysteresis := (f.hysteresis.map (holdHysteresis p.hysteresis)).getD p.hysteresis,
    threshold := (f.threshold.map (clampInt (-100) (-60))).getD p.threshold,
    agility := (f.agility.bind yesNo).getD p.agility,
    guard := (f.guard.map fun v => min (max v 500) 3000).getD p.guard,
    snapshotAuto := ((f.snapshotMode.bind yesNo).map not).getD p.snapshotAuto }

/-- The ceiling test (R180 step 3, R94), made if M or C is present. -/
def State.ceilingTest (s : State) (f : ParamFields) : Option Nat :=
  if f.missLimit.isSome || f.ceiling.isSome then
    s.firstOffender (f.missLimit.getD s.network.params.missLimit) (f.ceiling.getD s.network.params.ceiling)
  else none

/-- SET_PARAMETERS' handling (R180); a new channel plan sets the current index to 0 (R152). -/
def State.setParams (s : State) (f : ParamFields) : State × Reply :=
  match f.refusal (s.network.state == .halted) with
  | some r => (s, r)
  | none =>
    match s.ceilingTest f with
    | some h => (s, { result := .limitViolation, adjusted := [], payload := .offender h })
    | none =>
      let p := f.apply s.network.params
      let s := s.setNetwork { s.network with params := p }
      let s := if f.plan.isSome then s.setMonitor { s.monitor with index := 0 } else s
      (s, .okOr f.adjusted (.params p))

/-- SET_PARAMETERS (R180). -/
def execSetParameters (networkId : Option Nat) (plan : Option (List Nat)) (missLimit ceiling floor hysteresis : Option Nat)
    (threshold : Option Int) (agility guard snapshotMode : Option Nat) (s : State) : Step :=
  s.serve 33 fun s =>
    s.setParams
      { networkId := networkId, plan := plan, missLimit := missLimit, ceiling := ceiling, floor := floor,
        hysteresis := hysteresis, threshold := threshold, agility := agility, guard := guard,
        snapshotMode := snapshotMode }

/-! ### Reads -/

/-- READ_PARAMETERS (R181). -/
def execReadParameters (s : State) : Step := s.serveRead 34 fun s => .ok (.params s.network.params)

/-- The slot position (Table 3-1); absent while the timer is stopped. Between FRAME_END and the next BEACON it is slot 19 of the
frame that has ended, though R55 starts the next frame at the instant of the frame end (log 41). -/
def TimerPhase.slot : TimerPhase → Option Nat
  | .stopped => none
  | .beaconDue => some 0
  | .inSlot n => some n
  | .downlinkDue => some 18
  | .frameEnd _ => some 19

/-- The state in which READ_NETWORK reads the slot position: between the beacon and the first event of slot 1, slot 0 may have
closed and slot 1 be in progress, which is a free choice (log 6). -/
def State.slotZeroSeen (s : State) : State :=
  match s.timer.phase with
  | .inSlot 0 =>
    (s.setChoices (s.choices + 1)).setTimer
      { s.timer with phase := .inSlot (if Config.slotZeroOver s.choices then 1 else 0) }
  | _ => s

/-- What READ_NETWORK answers (R181). -/
def State.networkRead (s : State) : Payload :=
  .network s.network.state s.timer.frame s.timer.phase.slot s.network.formingCount s.channel

/-- READ_NETWORK (R181). -/
def execReadNetwork (s : State) : Step :=
  s.serve 35 fun s => (s.slotZeroSeen, .ok s.slotZeroSeen.networkRead)

/-- READ_IDENTITY (R181): vendor code 0A7E, part code 0340, revision 2. -/
def execReadIdentity (s : State) : Step := s.serveRead 36 fun _ => .ok (.identity 0x0A7E 0x0340 2)

end Sys2Proof.Machine
end

