-- ==== Sys2Proof/Machine/FrameCommands.lean ====
section
/-! DEFINITION. The events of the Frame Timer (R55) and of the air: BEACON, UPLINK_FRAME_RECEIVED, LANE_SLOT_CLOSE,
OPEN_SLOT_CLOSE, DOWNLINK_SLOT, FRAME_END and the steps of a frame end. An event that the timer's fixed sequence does not have
at the point where it stands changes nothing (log 1). -/

namespace Sys2Proof.Machine

/-- The timer in slot n of the frame in progress. -/
def State.inSlot (s : State) (n : Nat) : State := s.setTimer { s.timer with phase := .inSlot n }

/-! ### BEACON -/

/-- Whether a zone's window has reached 0 and its expiry is still to be taken (R47). -/
def Zone.windowOver (z : Zone) : Bool :=
  match z.state with
  | .waiting _ _ n => n == 0
  | _ => false

/-- Whether a record's retire grace has reached 0 and its expiry is still to be taken (R23). -/
def Record.graceOver (r : Record) : Bool :=
  match r.lifecycle with
  | .retiring g => g == 0
  | _ => false

/-- Whether a window, a grace or the commissioning window has expired and is still to be taken. -/
def State.expiryDue (s : State) : Bool :=
  (s.zones.any fun e => e.2.windowOver) || (s.records.any fun e => e.2.graceOver) || s.commissioning.window == some 0

/-- Whether some step of the frame end is still to be taken before the next frame starts (log 3). -/
def State.frameEndOpen (s : State) (due : FrameEndDue) : Bool :=
  s.expiryDue || due.formed || due.halted || due.hyper || s.completionDue || (due.autoTest && s.autoConditions)

/-- The number of the frame whose slot 0 starts now (R55, R54); absent when no slot 0 is at hand. -/
def State.openingFrame (s : State) : Option Nat :=
  match s.timer.phase with
  | .beaconDue => some s.timer.frame
  | .frameEnd due => if s.frameEndOpen due then none else some ((s.timer.frame + 1) % 128)
  | _ => none

/-- The fields of the beacon of frame f (Table 7-4). -/
def State.beaconFields (s : State) (f : Nat) : Beacon :=
  { frame := f,
    running := s.network.state != .forming,
    countdown := s.monitor.countdown,
    target := s.monitor.target.getD s.monitor.index,
    commissioning := s.commissioning.window.isSome }

/-- A frame put on the air on the current channel (R144, R148). -/
def State.transmit (s : State) (f : AirFrame) : State :=
  s.setAir (some { channel := s.channel, networkId := s.network.params.networkId, frame := f })

/-- The countdown after a beacon has shown it (R157). -/
def Changeover.shown (c : Changeover) : Changeover :=
  if 2 ≤ c.countdown then { c with countdown := c.countdown - 1 } else { c with shownLast := true }

/-- The start of slot 0 of frame f (R148, R149, R157, R178). -/
def State.sendBeacon (s : State) (f : Nat) : State :=
  let s := (s.transmit (.beacon (s.beaconFields f))).setTimer { frame := f, phase := .inSlot 0 }
  let s := s.setMonitor { s.monitor with changeover := s.monitor.changeover.map Changeover.shown }
  if s.network.state == .forming then s.setNetwork { s.network with formingCount := s.network.formingCount + 1 } else s

/-- BEACON (R148). -/
def execBeacon (s : State) : Step :=
  match s.openingFrame with
  | some f => .next (s.sendBeacon f)
  | none => .next s

/-! ### UPLINK_FRAME_RECEIVED -/

/-- The receiving slot whose window, its nominal start ± 4000 µs, an instant of the frame falls in, and the arrival offset
(R117). -/
def windowOf (instant : Nat) : Option (Nat × Int) :=
  let slot := (instant + 4000) / 25000
  let offset : Int := (instant : Int) - 25000 * slot
  if 1 ≤ slot && slot ≤ 17 && offset ≤ 4000 then some (slot, offset) else none

/-- The slot in which the timer stands when a frame whose start was detected at an instant is received: the slot in progress,
where the start lies in it or in the 4000 µs before it, which its window takes in (R117), or slot 1 when slot 0, whose close
has no command, is in progress (log 6). -/
def State.slotAt (s : State) (instant : Nat) : Option Nat :=
  match s.timer.phase with
  | .inSlot n =>
    if instant / 25000 = n || (instant + 4000) / 25000 = n then some n
    else if n = 0 && instant / 25000 = 1 then some 1
    else none
  | _ => none

/-- Whether the slot expects frames of this kind (R119). -/
def slotExpects (slot : Nat) : Uplink → Bool
  | .checkIn _ _ _ => slot ≤ 14
  | _ => 15 ≤ slot

/-- A move confirmed (R68): the current allocation is released and the next one becomes current. -/
def Record.confirmed (r : Record) : Record := { r with current := r.next, next := none }

/-- The owner check of a lane frame (R120), and the confirmation of a move it may bring (R68): the state after it, absent when
the frame is discarded. -/
def State.ownerCheck (s : State) (slot : Nat) (f : Uplink) : Option State :=
  match f with
  | .checkIn h rep _ =>
    match s.cellOwner slot s.timer.frame with
    | some (owner, role) =>
      if owner = h then
        match s.rec? h with
        | some r =>
          if role == .next && rep.version == r.version then some (s.modRec h Record.confirmed) else some s
        | none => none
      else none
    | none => none
  | _ => some s

/-- A frame received in a slot's window put to the checks of R118 to R120; the first to pass them all is accepted and held
until the slot closes (R117). -/
def State.receive (s : State) (slot : Nat) (offset level : Int) (bytes : List Byte) : State :=
  match parseUplink s.network.params.networkId bytes with
  | none => s
  | some f =>
    if !slotExpects slot f then s
    else if s.held.any fun x => x.slot == slot then s
    else
      match s.ownerCheck slot f with
      | none => s
      | some s =>
        s.setHeld (s.held ++ [{ slot := slot, frame := f, level := level, offset := offset, senderVacated := false }])

/-- UPLINK_FRAME_RECEIVED (R117). A frame whose start falls outside every receiving slot's window is not received. -/
def execUplinkFrameReceived (instant : Nat) (level : Int) (bytes : List Byte) (s : State) : Step :=
  match s.slotAt instant with
  | none => .next s
  | some n =>
    let s := s.inSlot n
    match windowOf instant with
    | none => .next s
    | some (slot, offset) => .next (s.receive slot offset level bytes)

/-! ### Slot closes -/

/-- The frame accepted in a slot, and the state in which that slot holds none (R121). -/
def State.takeHeld (s : State) (slot : Nat) : State × Option Held :=
  (s.setHeld (s.held.filter fun x => x.slot != slot), s.held.find? fun x => x.slot == slot)

/-- The close of lane L (R121, R66). -/
def State.closeLane (s : State) (lane : Nat) : State :=
  let t := s.takeHeld lane
  let s := t.1.inSlot (lane + 1)
  match t.2 with
  | some { frame := .checkIn h rep roll, level := level, offset := offset, senderVacated := v, .. } =>
    s.handCheckIn lane s.timer.frame h rep roll level offset v
  | _ => (s.cellOutcome lane s.timer.frame none).1

/-- LANE_SLOT_CLOSE (R121): the lane slot in progress closes; from slot 0, whose close has no command, it is lane 1's
(log 6). -/
def execLaneSlotClose (s : State) : Step :=
  match s.timer.phase with
  | .inSlot n => if n ≤ 14 then .next (s.closeLane (max n 1)) else .next s
  | _ => .next s

/-- A frame accepted in an open slot handed on (R122). -/
def State.handOpen (s : State) (x : Held) : State :=
  match x.frame with
  | .alarm origin via fire seq => s.handAlarm origin via fire seq x.offset
  | .join serial kind via => s.handJoin serial kind via x.level
  | .leaving h => s.handLeaving h
  | .checkIn _ _ _ => s

/-- The timer after open slot n has closed (R55). -/
def State.afterOpen (s : State) (n : Nat) : State :=
  if n = 17 then s.setTimer { s.timer with phase := .downlinkDue } else s.inSlot (n + 1)

/-- The close of open slot n (R122). -/
def State.closeOpen (s : State) (n : Nat) : State :=
  let t := s.takeHeld n
  let s := t.1.afterOpen n
  match t.2 with
  | some x => s.handOpen x
  | none => s

/-- OPEN_SLOT_CLOSE (R122). -/
def execOpenSlotClose (s : State) : Step :=
  match s.timer.phase with
  | .inSlot n => if 15 ≤ n && n ≤ 17 then .next (s.closeOpen n) else .next s
  | _ => .next s

/-! ### DOWNLINK_SLOT -/

/-- Whether a first hop is listening in the frame in progress (R143). -/
def State.listening (s : State) (hop : Nat) : Bool :=
  s.markers.contains hop
    || match s.rec? hop with
       | some r => r.isRelay || (r.settings.parent == 0 && r.ownsFrame s.timer.frame)
       | none => false

/-- Whether an entry is eligible for the downlink slot (R143). -/
def State.eligible (s : State) (e : QueueEntry) : Bool := s.listening (s.firstHop e.dest)

/-- The entry with the smallest class number and, among those, the earliest position (R144). -/
def bestEntry : List QueueEntry → Option QueueEntry
  | [] => none
  | e :: t =>
    match bestEntry t with
    | none => some e
    | some b => if b.msg.rank < e.msg.rank then some b else some e

/-- The arbiter's choice (R144). -/
def State.chosen (s : State) : Option QueueEntry := bestEntry (s.queue.filter s.eligible)

/-- The contents of a message, read from the record at the start of the slot (R137, Table 7-1). -/
def State.downBody (s : State) (h : Nat) (r : Record) : Msg → DownBody
  | .alarmAck q => .alarmAck q
  | .joinGrant => .joinGrant r.serial h r.announced r.settings r.version
  | .rearm => .rearm
  | .retireNotice => .retireNotice
  | .settings => .settings r.announced r.settings r.version
  | .routeUpdate =>
    .routeUpdate ((r.route.map Route.version).getD 0)
      ((s.childList h).filterMap fun c => (s.rec? c).map fun x => (c, x.serial))
  | .timeCorrection o => .timeCorrection o

/-- The start of a downlink slot (R144): the chosen entry is removed and its message transmitted, or the slot stays idle. -/
def State.arbitrate (s : State) : State :=
  match s.chosen with
  | none => s.setAir none
  | some e =>
    match s.rec? e.dest with
    | none => s.setAir none
    | some r =>
      (s.transmit (.downlink (s.firstHop e.dest) e.dest (s.downBody e.dest r e.msg))).setQueue (s.queue.erase e)

/-- DOWNLINK_SLOT (R144): the start of slot 18 and then of slot 19. -/
def execDownlinkSlot (s : State) : Step :=
  match s.timer.phase with
  | .downlinkDue => .next (s.arbitrate.inSlot 18)
  | .inSlot n => if n = 18 then .next (s.arbitrate.inSlot 19) else .next s
  | _ => .next s

/-! ### FRAME_END and its steps -/

/-- A zone's window one frame end shorter (R47). -/
def Zone.tick (z : Zone) : Zone :=
  match z.state with
  | .waiting f v n => { z with state := .waiting f v (n - 1) }
  | _ => z

/-- A record's retire grace one frame end shorter (R23). -/
def Record.tick (r : Record) : Record :=
  match r.lifecycle with
  | .retiring g => { r with lifecycle := .retiring (g - 1) }
  | _ => r

/-- The steps that a frame end leaves to be taken (log 3). -/
def State.dueAtFrameEnd (s : State) : FrameEndDue :=
  { formed := s.network.state == .forming && s.network.formingCount == 8,
    halted := s.network.state == .halting,
    autoTest := true,
    hyper := s.timer.frame == 127 }

/-- The frame end (R55): windows, graces and the commissioning count advance, the quiet sample is taken and judged, and the
listening markers are emptied. -/
def State.endFrame (s : State) (level : Int) : State :=
  let s := s.setZones (Tbl.mapValues (fun _ z => z.tick) s.zones)
  let s := s.setRecords (Tbl.mapValues (fun _ r => r.tick) s.records)
  let s := s.setCommissioning { s.commissioning with window := s.commissioning.window.map (· - 1) }
  let s := s.sampleBand level
  let s := s.setMarkers []
  s.setTimer { s.timer with phase := .frameEnd s.dueAtFrameEnd }

/-- FRAME_END (R55, R23, R47, R132, R153, R123): the end of slot 19. -/
def execFrameEnd (level : Int) (s : State) : Step :=
  match s.timer.phase with
  | .inSlot n => if n = 19 then .next (s.endFrame level) else .next s
  | _ => .next s

/-- A zone that leaves WAITING as its window reaches 0 (R47, R49). -/
def State.expireWindow (s : State) (z : Nat) : State :=
  if s.anyReporting z then s.zoneEnters z .prealarm else s.zoneClears z

/-- ZONE_WINDOW_EXPIRY (R47). -/
def execZoneWindowExpiry (zone : Nat) (s : State) : Step :=
  match s.zone? zone with
  | some zn => if zn.windowOver then .next (s.expireWindow zone) else .next s
  | none => .next s

/-- RETIRE_GRACE_EXPIRY (R23): the record is vacated. -/
def execRetireGraceExpiry (h : Nat) (s : State) : Step :=
  match s.rec? h with
  | some r => if r.graceOver then .next (s.vacate h) else .next s
  | none => .next s

/-- NETWORK_FORMED (R178): the network becomes RUNNING and FORMED is set. -/
def execNetworkFormed (s : State) : Step :=
  match s.timer.phase with
  | .frameEnd due =>
    if due.formed then
      .next (((s.setNetwork { s.network with state := .running }).setTimer
        { s.timer with phase := .frameEnd { due with formed := false } }).raise .formed)
    else .next s
  | _ => .next s

/-- The entry into HALTED (R179, R54, R138, R130, R151). -/
def State.enterHalted (s : State) : State :=
  let s := s.setNetwork { s.network with state := .halted }
  let s := s.setTimer { s.timer with phase := .stopped }
  let s := s.setQueue []
  let s := s.setCommissioning { s.commissioning with window := none, candidates := [] }
  let s := s.setMonitor { s.monitor with history := [], interfered := false, persistence := 0 }
  s.raise .halted

/-- NETWORK_HALTED (R179): after the windows and graces that the frame end brought to 0 have been taken (log 3) and, at the
end of frame 127, after the hyperframe end, since a HALTING frame is produced in full (R55, log 5). -/
def execNetworkHalted (s : State) : Step :=
  match s.timer.phase with
  | .frameEnd due =>
    if due.halted && !due.hyper
        && !((s.zones.any fun e => e.2.windowOver) || s.records.any fun e => e.2.graceOver) then
      .next s.enterHalted
    else .next s
  | _ => .next s

/-- HYPERFRAME_END (R55, R98): after the frame end of frame 127; in AUTO a snapshot is taken. -/
def execHyperframeEnd (s : State) : Step :=
  match s.timer.phase with
  | .frameEnd due =>
    if due.hyper then
      let t := s.setTimer { s.timer with phase := .frameEnd { due with hyper := false } }
      .next (if s.network.params.snapshotAuto then t.takeSnapshot else t)
    else .next s
  | _ => .next s

end Sys2Proof.Machine
end

