-- ==== Sys2Proof/Machine/Plan.lean ====
section
/-! DEFINITION. The meanings of READ_LANE (chapter 3), SNAPSHOT (chapter 4), READ_QUEUE (chapter 7) and READ_TIMING
(chapter 8). -/

namespace Sys2Proof.Machine

/-- The number of cells the entries of a lane own (3.4). -/
def ownedCells (l : List LaneEntry) : Nat := (l.map fun e => 128 / e.alloc.cadence).sum

/-- READ_LANE's answer (R67). -/
def State.readLane (s : State) (lane : Nat) : Reply :=
  if !isLane lane then .outOfRange 1
  else .ok (.lane (ownedCells (s.laneList lane)) (s.laneList lane))

/-- READ_LANE (R67). -/
def execReadLane (lane : Nat) (s : State) : Step := s.serveRead 14 fun s => s.readLane lane

/-- SNAPSHOT (R99). -/
def execSnapshot (s : State) : Step :=
  s.serve 15 fun s => (s.takeSnapshot, .ok (.snapshot s.records.length))

/-- The queue as READ_QUEUE gives it (R147). -/
def State.queueViews (s : State) : List QueueView :=
  s.queue.mapIdx fun i e => { position := i + 1, entry := e, firstHop := s.firstHop e.dest }

/-- READ_QUEUE (R147). -/
def execReadQueue (s : State) : Step := s.serveRead 20 fun s => .ok (.queue s.queueViews)

/-- READ_TIMING's handling (R162). -/
def State.readTiming (s : State) (h : Nat) : State × Reply :=
  if !isHandle h then (s, .outOfRange 1)
  else
    match s.rec? h with
    | none => (s, .refuse .noSuchRecord)
    | some r =>
      (s.modRec h fun r =>
          { r with timing := r.timing.map fun t => { last := t.last, offsetMin := t.last, offsetMax := t.last } },
        .ok (.timing r.timing))

/-- READ_TIMING (R162). -/
def execReadTiming (h : Nat) (s : State) : Step := s.serve 23 fun s => s.readTiming h

end Sys2Proof.Machine
end

