-- ==== Sys2Proof/Decode.lean ====
section
/-! DEFINITION. Which command a transaction at the Command Port spells (11.2): the request frame of Table 11-2 read and
written, and the table's words, of which there are none. -/

namespace Sys2Proof

open Machine

/-- The width of a request field (R182). -/
inductive FieldType where
  | u8 | u16 | u40 | s8 | plan
  deriving DecidableEq, Repr

/-- The value of a request field. -/
inductive FieldVal where
  | num (n : Nat)
  | serial (s : Serial)
  | signed (i : Int)
  | list (l : List Nat)
  deriving DecidableEq, Repr

/-- The fields of a request kind in position order, each with its type and whether the request's rule makes it mandatory
(Table 10-4 and the rule of each request). -/
def requestShape : Nat → Option (List (FieldType × Bool))
  | 1 => some [(.u40, true), (.u8, true), (.u8, true), (.u8, true), (.u8, true), (.u8, true), (.u8, true), (.u16, true)]
  | 2 => some [(.u8, true), (.u8, false), (.u8, false), (.u8, false), (.u8, false), (.u8, false), (.u16, false),
      (.u8, false)]
  | 3 => some [(.u8, true)]
  | 4 => some [(.u8, true), (.u40, true), (.u8, true), (.u8, true), (.u8, true), (.u8, true), (.u8, true), (.u8, true),
      (.u8, true), (.u8, true), (.u8, true), (.u8, true), (.u8, true), (.u8, true)]
  | 5 => some [(.u8, true)]
  | 6 => some [(.u40, true)]
  | 7 => some [(.u8, true)]
  | 8 => some []
  | 9 => some [(.u8, true), (.u8, true), (.u8, true), (.u8, true)]
  | 10 => some [(.u8, true), (.u8, false), (.u8, false), (.u8, false)]
  | 11 => some [(.u8, true)]
  | 12 => some [(.u8, true)]
  | 13 => some [(.u8, true)]
  | 14 => some [(.u8, true)]
  | 15 => some []
  | 16 => some [(.u40, true), (.u8, true), (.u8, true), (.u40, true), (.u8, true), (.u8, true), (.u16, true)]
  | 17 => some []
  | 18 => some []
  | 19 => some [(.u40, true)]
  | 20 => some []
  | 21 => some [(.u8, true)]
  | 22 => some []
  | 23 => some [(.u8, true)]
  | 24 => some []
  | 25 => some [(.u8, true)]
  | 26 => some [(.u8, true)]
  | 27 => some [(.u8, false), (.u8, false), (.u8, false), (.u8, false)]
  | 28 => some [(.u16, true)]
  | 29 => some [(.u16, true)]
  | 30 => some [(.u16, true)]
  | 31 => some []
  | 32 => some []
  | 33 => some [(.u16, false), (.plan, false), (.u8, false), (.u16, false), (.u8, false), (.u8, false), (.s8, false),
      (.u8, false), (.u16, false), (.u8, false)]
  | 34 => some []
  | 35 => some []
  | 36 => some []
  | _ => none

/-- One field read from the front of the bytes (R182). -/
def readField : FieldType → List Byte → Option (FieldVal × List Byte)
  | .u8, a :: t => some (.num a.toNat, t)
  | .u16, a :: b :: t => some (.num (nat2 a b), t)
  | .u40, a :: b :: c :: d :: e :: t => some (.serial (serial5 a b c d e), t)
  | .s8, a :: t => some (.signed a.toInt, t)
  | .plan, n :: t => if n.toNat ≤ t.length then some (.list ((t.take n.toNat).map BitVec.toNat), t.drop n.toNat) else none
  | _, _ => none

/-- The fields of a frame read in position order, `marks` holding the presence bits of the positions still to come; a clear
bit of a mandatory field, and bytes left over, are malformed (R175, R182). -/
def readFields (marks : Nat) : List (FieldType × Bool) → List Byte → Option (List (Option FieldVal))
  | [], [] => if marks = 0 then some [] else none
  | [], _ :: _ => none
  | (ty, mandatory) :: shape, bytes =>
    if marks % 2 = 1 then
      match readField ty bytes with
      | some (v, rest) => (readFields (marks / 2) shape rest).map (some v :: ·)
      | none => none
    else if mandatory then none
    else (readFields (marks / 2) shape bytes).map (none :: ·)

/-- The value of an optional number field. -/
def optNum : Option FieldVal → Option Nat
  | some (.num n) => some n
  | _ => none

/-- The value of an optional channel plan field. -/
def optList : Option FieldVal → Option (List Nat)
  | some (.list l) => some l
  | _ => none

/-- The value of an optional signed field. -/
def optSigned : Option FieldVal → Option Int
  | some (.signed i) => some i
  | _ => none

/-- The request of a kind (numbered from 1 in the order of Table 10-4) with its fields. -/
def buildRequest : Nat → List (Option FieldVal) → Option Instr
  | 1, [some (.serial s), some (.num k), some (.num z), some (.num m), some (.num p), some (.num sc), some (.num im),
      some (.num q)] => some (.enrol s k z m p sc im q)
  | 2, [some (.num h), z, m, d, sc, im, q, p] =>
    some (.amend h (optNum z) (optNum m) (optNum d) (optNum sc) (optNum im) (optNum q) (optNum p))
  | 3, [some (.num h)] => some (.retire h)
  | 4, [some (.num h), some (.serial s), some (.num k), some (.num z), some (.num m), some (.num p), some (.num sc),
      some (.num im), some (.num q), some (.num l), some (.num ph), some (.num v), some (.num d), some (.num cv)] =>
    some (.restore h s k z m p sc im q l ph v d cv)
  | 5, [some (.num h)] => some (.readRecord h)
  | 6, [some (.serial s)] => some (.findSerial s)
  | 7, [some (.num z)] => some (.openZonePage z)
  | 8, [] => some .readNext
  | 9, [some (.num z), some (.num m), some (.num w), some (.num d)] => some (.defineZone z m w d)
  | 10, [some (.num z), m, w, d] => some (.amendZone z (optNum m) (optNum w) (optNum d))
  | 11, [some (.num z)] => some (.deleteZone z)
  | 12, [some (.num z)] => some (.readZone z)
  | 13, [some (.num z)] => some (.resetConditions z)
  | 14, [some (.num l)] => some (.readLane l)
  | 15, [] => some .snapshot
  | 16, [some (.serial va), some (.num la), some (.num ea), some (.serial vb), some (.num lb), some (.num eb),
      some (.num d)] => some (.openCommissioning va la ea vb lb eb d)
  | 17, [] => some .closeCommissioning
  | 18, [] => some .readCandidates
  | 19, [some (.serial s)] => some (.dismissCandidate s)
  | 20, [] => some .readQueue
  | 21, [some (.num i)] => some (.changeChannel i)
  | 22, [] => some .readChannel
  | 23, [some (.num h)] => some (.readTiming h)
  | 24, [] => some .takeAttention
  | 25, [some (.num c)] => some (.setNotify c)
  | 26, [some (.num c)] => some (.clearNotify c)
  | 27, [f, z, l, t] => some (.setEdges (optNum f) (optNum z) (optNum l) (optNum t))
  | 28, [some (.num f)] => some (.ackFlags f)
  | 29, [some (.num f)] => some (.setFlagNotify f)
  | 30, [some (.num f)] => some (.clearFlagNotify f)
  | 31, [] => some .start
  | 32, [] => some .halt
  | 33, [n, pl, m, c, fl, hy, th, ag, g, sm] =>
    some (.setParameters (optNum n) (optList pl) (optNum m) (optNum c) (optNum fl) (optNum hy) (optSigned th) (optNum ag)
      (optNum g) (optNum sm))
  | 34, [] => some .readParameters
  | 35, [] => some .readNetwork
  | 36, [] => some .readIdentity
  | _, _ => none

/-- The request that the bytes of a request write spell, leading byte included (Table 11-2); absent when the frame is
malformed (R175, R182). -/
def decodeRequest : List Byte → Option Instr
  | 0x5A#8 :: kind :: len :: m1 :: m0 :: fields =>
    if len.toNat = fields.length + 2 then
      match requestShape kind.toNat with
      | some shape => (readFields (nat2 m1 m0) shape fields).bind (buildRequest kind.toNat)
      | none => none
    else none
  | _ => none

/-- The command that a transaction at the Command Port spells (R182): A5 leads an answer read; every other transaction is a
request write, well formed or malformed. -/
def decodeTransaction (bytes : List Byte) : Instr :=
  match bytes with
  | 0xA5#8 :: rest => .answerRead rest.length
  | _ =>
    match decodeRequest bytes with
    | some i => i
    | none => .malformedRequest bytes

/-- The kind and fields of a request; absent for a command that is no request. -/
def requestFields : Instr → Option (Nat × List (Option FieldVal))
  | .enrol s k z m p sc im q =>
    some (1, [some (.serial s), some (.num k), some (.num z), some (.num m), some (.num p), some (.num sc),
      some (.num im), some (.num q)])
  | .amend h z m d sc im q p =>
    some (2, [some (.num h), z.map .num, m.map .num, d.map .num, sc.map .num, im.map .num, q.map .num, p.map .num])
  | .retire h => some (3, [some (.num h)])
  | .restore h s k z m p sc im q l ph v d cv =>
    some (4, [some (.num h), some (.serial s), some (.num k), some (.num z), some (.num m), some (.num p), some (.num sc),
      some (.num im), some (.num q), some (.num l), some (.num ph), some (.num v), some (.num d), some (.num cv)])
  | .readRecord h => some (5, [some (.num h)])
  | .findSerial s => some (6, [some (.serial s)])
  | .openZonePage z => some (7, [some (.num z)])
  | .readNext => some (8, [])
  | .defineZone z m w d => some (9, [some (.num z), some (.num m), some (.num w), some (.num d)])
  | .amendZone z m w d => some (10, [some (.num z), m.map .num, w.map .num, d.map .num])
  | .deleteZone z => some (11, [some (.num z)])
  | .readZone z => some (12, [some (.num z)])
  | .resetConditions z => some (13, [some (.num z)])
  | .readLane l => some (14, [some (.num l)])
  | .snapshot => some (15, [])
  | .openCommissioning va la ea vb lb eb d =>
    some (16, [some (.serial va), some (.num la), some (.num ea), some (.serial vb), some (.num lb), some (.num eb),
      some (.num d)])
  | .closeCommissioning => some (17, [])
  | .readCandidates => some (18, [])
  | .dismissCandidate s => some (19, [some (.serial s)])
  | .readQueue => some (20, [])
  | .changeChannel i => some (21, [some (.num i)])
  | .readChannel => some (22, [])
  | .readTiming h => some (23, [some (.num h)])
  | .takeAttention => some (24, [])
  | .setNotify c => some (25, [some (.num c)])
  | .clearNotify c => some (26, [some (.num c)])
  | .setEdges f z l t => some (27, [f.map .num, z.map .num, l.map .num, t.map .num])
  | .ackFlags f => some (28, [some (.num f)])
  | .setFlagNotify f => some (29, [some (.num f)])
  | .clearFlagNotify f => some (30, [some (.num f)])
  | .start => some (31, [])
  | .halt => some (32, [])
  | .setParameters n pl m c fl hy th ag g sm =>
    some (33, [n.map .num, pl.map .list, m.map .num, c.map .num, fl.map .num, hy.map .num, th.map .signed, ag.map .num,
      g.map .num, sm.map .num])
  | .readParameters => some (34, [])
  | .readNetwork => some (35, [])
  | .readIdentity => some (36, [])
  | .powerOnReset | .resetPulse | .answerRead _ | .requestDiscarded | .malformedRequest _ | .startLockObtained
  | .startLockTimeout | .beacon | .uplinkFrameReceived _ _ _ | .laneSlotClose | .openSlotClose | .downlinkSlot
  | .frameEnd _ | .zoneWindowExpiry _ | .retireGraceExpiry _ | .commissioningWindowExpiry | .autoChangeover
  | .changeoverComplete | .networkFormed | .networkHalted | .hyperframeEnd => none

/-- One field written (R182). -/
def writeField : FieldType → FieldVal → List Byte
  | .u16, .num n => bytes2 n
  | _, .num n => [byte n]
  | _, .serial s => bytes5 s
  | _, .signed i => [signed1 i]
  | _, .list l => byte l.length :: l.map byte

/-- The present fields written in position order. -/
def writeFields : List (FieldType × Bool) → List (Option FieldVal) → List Byte
  | (ty, _) :: shape, some v :: vs => writeField ty v ++ writeFields shape vs
  | _ :: shape, none :: vs => writeFields shape vs
  | _, _ => []

/-- The presence marks of the fields: bit n - 1 stands for position n (R182). -/
def presenceMarks : List (Option FieldVal) → Nat
  | [] => 0
  | some _ :: vs => 1 + 2 * presenceMarks vs
  | none :: vs => 2 * presenceMarks vs

/-- The transaction that writes a request (Table 11-2), leading byte included; empty for a command that is no request. -/
def encodeRequest (i : Instr) : List Byte :=
  match requestFields i with
  | none => []
  | some (kind, vals) =>
    match requestShape kind with
    | none => []
    | some shape =>
      let fields := writeFields shape vals
      0x5A#8 :: byte kind :: byte (fields.length + 2) :: bytes2 (presenceMarks vals) ++ fields

/-- Which command a word of spec/opcode_table.json spells: none, since no row of the table has bits. -/
def decodeTableWord (_nbits _w : Nat) : Option Instr := none

end Sys2Proof
end

