-- ==== Sys2Proof/Machine/AnswerCodec.lean ====
section
/-! DEFINITION. Answer frames as bytes (Table 11-3, 11.3, R183 to R185). The codes and the presence bytes that the
manual does not give are the free values of Config (log 10, log 11). -/

namespace Sys2Proof.Machine

/-- The number of a result code (11.1: from 0 in the order of Table 10-3). -/
def ResultCode.code : ResultCode → Nat
  | .ok => 0
  | .adjusted => 1
  | .malformed => 2
  | .outOfRange => 3
  | .wrongState => 4
  | .busy => 5
  | .empty => 6
  | .endOfPage => 7
  | .noSuchRecord => 8
  | .noSuchZone => 9
  | .noCursor => 10
  | .full => 11
  | .duplicateSerial => 12
  | .addressTaken => 13
  | .handleTaken => 14
  | .badParent => 15
  | .routeFull => 16
  | .hasChildren => 17
  | .zoneNotEmpty => 18
  | .noCapacity => 19
  | .slotConflict => 20
  | .limitViolation => 21
  | .radioFault => 22

/-- The code of a network state as Config.networkStateCode is asked for it. -/
def NetState.index : NetState → Nat
  | .halted => 0
  | .forming => 1
  | .running => 2
  | .halting => 3

/-- A presence byte: bit n is set when the n-th flag holds (R183, R184). -/
def presence (l : List Bool) : Byte :=
  l.foldr (fun b acc => (acc <<< 1) ||| (if b then 1#8 else 0#8)) 0#8

/-- The fire latch's code: 0 or 2 (Table 11-1). -/
def latchByte (latched : Bool) : Byte := if latched then 2 else 0

/-- The history bits: bit 0 the newest outcome, set meaning HEARD (11.3). -/
def historyByte (l : List Result) : Byte := presence (l.map (· == .heard))

/-- The retire grace of a lifecycle, absent but in RETIRING. -/
def Lifecycle.grace : Lifecycle → Option Nat
  | .retiring g => some g
  | _ => none

/-- Child handles, then zeros to fill twelve bytes (Table 11-4). -/
def childBytes (l : List Nat) : List Byte := (l.map byte ++ List.replicate 12 0#8).take 12

/-- The 64-byte record image (Table 11-4). -/
def recordImage (h : Nat) (r : Record) (children : List Nat) : List Byte :=
  let t := r.timing.getD { last := 0, offsetMin := 0, offsetMax := 0 }
  let route := r.route.getD { version := 0, reported := none, staleRun := 0 }
  [byte h, byte (lifecycleCode (some r.lifecycle))] ++ bytes5 r.serial
    ++ [byte r.kind.code, byte r.zone, byte r.member, byte r.settings.parent, byte r.settings.sensitivity,
        byte r.settings.indicator.code, byte r.settings.cadence, r.version, flagByte r.disabled]
    ++ bytes2 (r.lifecycle.grace.getD 0) ++ allocBytes r.current ++ allocBytes r.next
    ++ [byte r.link.state.code] ++ bytes2 (r.link.lqf.getD 0)
    ++ [byte r.link.missRun, byte r.link.history.length, historyByte r.link.history]
    ++ bytes2 r.link.live ++ bytes2 r.link.snap
    ++ [presence [r.link.saturated, r.link.snapSaturated], byte r.cond.fire.code, latchByte r.cond.latched,
        byte (r.cond.lastSeq.getD 0), r.cond.faults.setWidth 8, byte (r.cond.battery.getD 0),
        r.cond.reportedVersion.getD 0]
    ++ signed2 t.last ++ signed2 t.offsetMin ++ signed2 t.offsetMax
    ++ [byte children.length] ++ childBytes children
    ++ [route.version, route.reported.getD 0, byte route.staleRun,
        presence [r.lifecycle.grace.isSome, r.link.lqf.isSome, r.cond.lastSeq.isSome, r.cond.battery.isSome,
          r.cond.reportedVersion.isSome, r.timing.isSome, route.reported.isSome]]

/-- The first knocker of a zone state, present only in WAITING. -/
def ZoneState.firstKnocker : ZoneState → Option Nat
  | .waiting f _ _ => some f
  | _ => none

/-- The window remaining of a zone state, present only in WAITING. -/
def ZoneState.remaining : ZoneState → Option Nat
  | .waiting _ _ n => some n
  | _ => none

/-- The zone fields that READ_ZONE and the zone summary share (Table 2-3). -/
def zoneFields (z : Zone) : List Byte :=
  [byte z.mode.code, byte z.window, flagByte z.disabled, byte z.state.code, byte (z.state.firstKnocker.getD 0),
    byte (z.state.remaining.getD 0)]

/-- The presence byte of a zone's first knocker and window remaining. -/
def zonePresence (z : Zone) : Byte := presence [z.state.firstKnocker.isSome, z.state.remaining.isSome]

/-- The twelve bytes of an attention summary (11.3, R185). -/
def Summary.bytes : Summary → List Byte
  | .vacant => List.replicate 12 0
  | .record lc k z m d l f latch fs bt v rv =>
    [byte (lifecycleCode (some lc)), byte k.code, byte z, byte m, flagByte d, byte l.code, byte f.code, latchByte latch,
      fs.setWidth 8, (bt.map byte).getD 0xFF, v, rv.getD 0xFF]
  | .undefinedZone => List.replicate 12 0
  | .zone z n => [1#8] ++ zoneFields z ++ [byte n, zonePresence z, 0, 0, 0]

/-- A set of flags in two bytes (11.1). -/
def flagBytes (f : FlagSet) : List Byte := bytes2 f.toNat

/-- The target type and number of an attention entry (Table 11-5). -/
def targetBytes : Target → List Byte
  | .record h => [0, byte h]
  | .zone z => [1, byte z]

/-- The alarm sequence that an entry stores, absent but for ALARM_ACK (Table 7-1). -/
def Msg.sequence : Msg → Option Nat
  | .alarmAck q => some q
  | _ => none

/-- The offset that an entry stores, absent but for TIME_CORRECTION (Table 7-1). -/
def Msg.offset : Msg → Option Int
  | .timeCorrection o => some o
  | _ => none

/-- One entry of READ_QUEUE in the order of R147: the alarm sequence in one byte and the offset in two, each as zeros where
the entry's kind has none (R183, R184). -/
def queueViewBytes (v : QueueView) : List Byte :=
  [byte v.position, byte v.entry.dest, Config.queueKindCode v.entry.msg.row, byte v.entry.msg.rank, byte v.firstHop,
    byte (v.entry.msg.sequence.getD 0)] ++ signed2 (v.entry.msg.offset.getD 0)

/-- The fields of a queue that may be absent, in payload order: each entry's sequence, then its offset. -/
def queuePresent (vs : List QueueView) : List Bool :=
  vs.flatMap fun v => [v.entry.msg.sequence.isSome, v.entry.msg.offset.isSome]

/-- The presence byte that ends a READ_QUEUE payload (R184): its eight bits mark the first eight fields that may be absent.
What stands before it for the fields past the eighth is free; a queue without entries has no such field and no presence byte
(log 11). -/
def queuePresence (vs : List QueueView) : List Byte :=
  let present := queuePresent vs
  if present.isEmpty then []
  else
    (if present.length ≤ 8 then [] else Config.queueMorePresence (present.drop 8)) ++ [presence (present.take 8)]

/-- The payload of an answer (R184). Log 12 names the widths and counts that neither R182 nor R184 states. -/
def Payload.bytes : Payload → List Byte
  | .none => []
  | .position n => [byte n]
  | .members n => [byte n]
  | .offender h => [byte h]
  | .busy i c t => [byte i, byte c, byte t]
  | .enrolled h c a =>
    [byte h, byte c, byte ((a.map Alloc.lane).getD 0), byte ((a.map Alloc.phase).getD 0)]
  | .amended n v => [byte n, v]
  | .retired lc => [byte (lifecycleCode lc)]
  | .record h r cs => recordImage h r cs
  | .found h lc k z m => [byte h, byte (lifecycleCode (some lc)), byte k.code, byte z, byte m]
  | .zoneSummary h m k lc l latch f fs d =>
    [byte h, byte m, byte k.code, byte (lifecycleCode (some lc)), byte l.code, latchByte latch, byte f.code,
      fs.setWidth 8, flagByte d]
  | .window w => [byte w]
  | .zoneAmended n st => [byte n, byte st.code]
  | .zone z ms =>
    zoneFields z ++ byte ms.length :: (ms.flatMap fun m => [byte m.1, byte m.2]) ++ [zonePresence z]
  | .conditionsReset z r => [byte z, byte r]
  | .lane owned es =>
    byte owned :: byte es.length ::
      es.flatMap fun e =>
        [byte e.owner, Config.roleCode (match e.role with | .current => 0 | .next => 1), byte e.alloc.cadence,
          byte e.alloc.phase]
  | .snapshot n => [byte n]
  | .duration n => bytes2 n
  | .candidates w es =>
    Config.windowStateCode (if w.isSome then 1 else 0) :: bytes2 (w.getD 0) ++ byte es.length ::
      (es.flatMap fun e =>
        bytes5 e.serial ++ [byte e.kind.code, byte e.via, byte e.margin, byte e.attempts, byte e.frame])
      ++ [presence [w.isSome]]
  | .queue vs => byte vs.length :: vs.flatMap queueViewBytes ++ queuePresence vs
  | .channelChange i c t => [byte i, byte c, byte (t.getD 0), presence [t.isSome]]
  | .channel plan i st p n b16 ball c t =>
    byte plan.length :: plan.map byte
      ++ [byte i, Config.interferenceCode (if st then 1 else 0), byte p, byte n, byte b16, byte ball, byte c,
          byte (t.getD 0), presence [t.isSome]]
  | .timing t =>
    let v := t.getD { last := 0, offsetMin := 0, offsetMax := 0 }
    signed2 v.last ++ signed2 v.offsetMin ++ signed2 v.offsetMax ++ [presence [t.isSome, t.isSome, t.isSome]]
  | .attention f e left s =>
    flagBytes f ++ targetBytes e.target ++ bytes2 e.marks.toNat ++ [flagByte e.urgent, byte left] ++ s.bytes
  | .flags f => flagBytes f
  | .causes c => [c.setWidth 8]
  | .edges e => [byte e.fire.code, byte e.zone.code, byte e.link.code, byte e.fault.code]
  | .params p =>
    bytes2 p.networkId ++ byte p.plan.length :: p.plan.map byte ++ [byte p.missLimit] ++ bytes2 p.ceiling
      ++ [byte p.floor, byte p.hysteresis, signed1 p.threshold, flagByte p.agility] ++ bytes2 p.guard
      ++ [flagByte (!p.snapshotAuto)]
  | .network st f slot n c =>
    [Config.networkStateCode st.index, byte f, (slot.map byte).getD Config.stoppedSlotCode, byte n, byte c]
  | .identity v p r => bytes2 v ++ bytes2 p ++ [byte r]

/-- The adjustment list of an ADJUSTED answer (R182): the count, then position and 1 for held or 2 for clamped. -/
def adjustBytes (l : List (Nat × Adjust)) : List Byte :=
  byte l.length :: l.flatMap fun a => [byte a.1, (match a.2 with | .held => 1 | .clamped => 2)]

/-- The answer frame (Table 11-3). -/
def Answer.bytes (a : Answer) : List Byte :=
  let body := a.payload.bytes
  [a.kind, byte a.result.code, flagByte a.discarded] ++ bytes2 body.length
    ++ (if a.result == .adjusted then adjustBytes a.adjusted else []) ++ body

/-- The NONE frame (R182): request kind 0, result FF, marker 0, payload length 0. -/
def noneFrame : List Byte := [0x00, 0xFF, 0x00, 0x00, 0x00]

/-- What the host reads when it clocks `count` bytes of a frame: bytes beyond its end read as 00 (R182). -/
def clockOut (frame : List Byte) (count : Nat) : List Byte := (frame ++ List.replicate count 0#8).take count

end Sys2Proof.Machine
end

