-- ==== Sys2Proof/Machine/PortCommands.lean ====
section
/-! DEFINITION. The meanings of the reset and port commands: POWER_ON_RESET, RESET_PULSE, ANSWER_READ, REQUEST_DISCARDED and
MALFORMED_REQUEST. -/

namespace Sys2Proof.Machine

/-- Every block in its reset state (R176 and the reset clause of each block's rules). The model's own queue of commands and
counter of free choices are no part of the hardware and stay (log 20). -/
def State.resetBlocks (s : State) : State :=
  { State.reset with choices := s.choices, pending := s.pending }

/-- POWER_ON_RESET (R176). -/
def execPowerOnReset (s : State) : Step := .next s.resetBlocks

/-- RESET_PULSE has the same effect (R176). -/
def execResetPulse (s : State) : Step := .next s.resetBlocks

/-- ANSWER_READ (R174, R182): the answer is clocked out and gone, however many bytes the host clocks; without one a NONE frame
is clocked out and the port is unchanged. -/
def execAnswerRead (count : Nat) (s : State) : Step :=
  match s.port.state with
  | .answerReady a =>
    .next (s.setPort { state := .idle, discarded := false, spiOut := clockOut a.bytes count })
  | _ => .next (s.setPort { s.port with spiOut := clockOut noneFrame count })

/-- REQUEST_DISCARDED (R174): in WORKING the discarded marker is set. In another port state no request is discarded, and
nothing changes (log 21). -/
def execRequestDiscarded (s : State) : Step :=
  match s.port.state with
  | .working => .next s.discardRequest
  | _ => .next s

/-- A byte that names no request (R182): k itself where it is none of the kinds 1..36, otherwise one beyond them. -/
def noRequestKind (k : Byte) : Byte := if 1 ≤ k.toNat && k.toNat ≤ 36 then k + 36 else k

/-- The request kind that the answer to a malformed request write carries: its kind byte where it has one (R174, log 27). The
kind of a transaction that does not begin with 5A names no request (R182) and is otherwise free; that of a transaction that
ends with its 5A is free (log 9). -/
def malformedAnswerKind : List Byte → Byte
  | 0x5A#8 :: kind :: _ => kind
  | [0x5A#8] => Config.malformedKind [0x5A#8]
  | bytes => noRequestKind (Config.malformedKind bytes)

/-- MALFORMED_REQUEST (R175): taken and answered MALFORMED at once, discarded in WORKING (R174). Bytes that do spell a request
are that request's command and not this one, and nothing changes (log 21). -/
def execMalformedRequest (bytes : List Byte) (s : State) : Step :=
  if (decodeRequest bytes).isSome then .next s
  else s.serveRead (malformedAnswerKind bytes) fun _ => Reply.refuse .malformed

end Sys2Proof.Machine
end

