-- ==== Sys2Proof/Machine/Registry.lean ====
section
/-! DEFINITION. The meanings of the registry requests (chapter 1): ENROL, AMEND, RETIRE, RESTORE, READ_RECORD, FIND_SERIAL,
OPEN_ZONE_PAGE and READ_NEXT. -/

namespace Sys2Proof.Machine

/-- The granted cadence of a request, with the miss limit and ceiling in force (R57). -/
def State.grant (s : State) (q : Nat) : Nat := clampCadence s.network.params.missLimit s.network.params.ceiling q

/-- Whether the clamp of a requested cadence is reported (R57). -/
def State.grantReported (s : State) (q : Nat) : Bool :=
  clampReported s.network.params.missLimit s.network.params.ceiling q

/-! ### ENROL -/

/-- The record that ENROL creates (R9 steps 2 to 6). -/
def enrolledRecord (serial : Serial) (k : Kind) (zone member : Nat) (settings : Settings) (a : Option Alloc) : Record :=
  { serial := serial, kind := k, zone := zone, member := member, lifecycle := .pending, settings := settings, version := 0,
    disabled := false, current := a, next := none, link := LinkBlock.fresh, cond := Condition.fresh, timing := none,
    route := freshRoute k 0 }

/-- The effect of ENROL on a handle (R9): the record, the relay's child-list version, and the candidate entry removed. -/
def State.enrolAt (s : State) (h : Nat) (r : Record) : State :=
  let s := s.setRecords (Tbl.set s.records h r)
  let s := s.bumpChildVersion r.settings.parent
  s.setCommissioning { s.commissioning with
    candidates := s.commissioning.candidates.filter fun c => c.serial != r.serial }

/-- ENROL with its fields in range (R7 to R9). -/
def State.enrolChecked (s : State) (serial : Serial) (k : Kind) (zone member parent sensitivity : Nat)
    (indicator : IndicatorMode) (q : Nat) : State × Reply :=
  let granted := s.grant q
  let adjusted := adjustedIf (s.grantReported q) 8 .clamped
  if (s.zone? zone).isNone then (s, .refuse .noSuchZone)
  else if (s.findSerial serial).isSome then (s, .refuse .duplicateSerial)
  else if s.addressTaken 0 zone member then (s, .refuse .addressTaken)
  else if s.badParent 0 parent k then (s, .refuse .badParent)
  else if s.routeFull 0 parent then (s, .refuse .routeFull)
  else
    match s.lowestVacant with
    | none => (s, .refuse .full)
    | some h =>
      let settings : Settings :=
        { sensitivity := sensitivity, indicator := indicator, cadence := granted, parent := parent }
      if parent != 0 then
        (s.enrolAt h (enrolledRecord serial k zone member settings none),
          .okOr adjusted (.enrolled h granted none))
      else
        match firstFit s.laneEntries granted with
        | none => (s, .refuse .noCapacity)
        | some a =>
          (s.enrolAt h (enrolledRecord serial k zone member settings (some a)),
            .okOr adjusted (.enrolled h granted (some a)))

/-- ENROL's field tests in request order (R6), then R7. -/
def State.enrol (s : State) (serial : Serial) (kind zone member parent sensitivity indicator cadence : Nat) :
    State × Reply :=
  match Kind.ofCode kind with
  | none => (s, .outOfRange 2)
  | some k =>
    if !isZone zone then (s, .outOfRange 3)
    else if !isZone member then (s, .outOfRange 4)
    else if 160 < parent then (s, .outOfRange 5)
    else if !(1 ≤ sensitivity && sensitivity ≤ 4) then (s, .outOfRange 6)
    else
      match IndicatorMode.ofCode indicator with
      | none => (s, .outOfRange 7)
      | some im => s.enrolChecked serial k zone member parent sensitivity im cadence

/-- ENROL (R6 to R9). -/
def execEnrol (serial : Serial) (kind zone member parent sensitivity indicator cadence : Nat) (s : State) : Step :=
  s.serve 1 fun s => s.enrol serial kind zone member parent sensitivity indicator cadence

/-! ### RESTORE -/

/-- The record that RESTORE creates (R12). -/
def restoredRecord (serial : Serial) (k : Kind) (zone member : Nat) (settings : Settings) (a : Option Alloc)
    (version : Nat) (disabled : Bool) (childVersion : Nat) : Record :=
  { serial := serial, kind := k, zone := zone, member := member, lifecycle := .active, settings := settings,
    version := BitVec.ofNat 8 version, disabled := disabled, current := a, next := none, link := LinkBlock.fresh,
    cond := Condition.fresh, timing := none, route := freshRoute k (BitVec.ofNat 8 childVersion) }

/-- The effect of RESTORE on a handle (R12); a child below a relay that is LOST or UNREACHABLE enters UNREACHABLE at once
(R113). -/
def State.restoreAt (s : State) (h : Nat) (r : Record) : State :=
  let s := s.setRecords (Tbl.set s.records h r)
  if s.chainBroken h then State.goUnreachable 3 s h else s

/-- RESTORE with its fields in range (R11, R12). LIMIT_VIOLATION carries the handle of the request, the one offending handle
there is (Table 10-3, log 35). Whether a child that is not a relay is put to the cadence's test too is a free choice: R10 and R57
refuse every cadence that the clamp would lower, Table 1-7 and R58 leave such a child out (log 40). -/
def State.restoreChecked (s : State) (h : Nat) (serial : Serial) (k : Kind) (zone member : Nat) (settings : Settings)
    (lane phase version : Nat) (disabled : Bool) (childVersion : Nat) : State × Reply :=
  let P := settings.cadence
  let p := settings.parent
  let a : Alloc := { lane := lane, cadence := P, phase := phase }
  let alloc := if p = 0 then some a else none
  if (s.rec? h).isSome then (s, .refuse .handleTaken)
  else if (s.zone? zone).isNone then (s, .refuse .noSuchZone)
  else if (s.findSerial serial).isSome then (s, .refuse .duplicateSerial)
  else if s.addressTaken 0 zone member then (s, .refuse .addressTaken)
  else if s.badParent 0 p k then (s, .refuse .badParent)
  else if s.routeFull 0 p then (s, .refuse .routeFull)
  else if s.network.params.ceiling < P * s.network.params.missLimit
      && (p == 0 || k == .relay || Config.restoreBoundsEveryChild) then
    (s, { result := .limitViolation, adjusted := [], payload := .offender h })
  else if p == 0 && s.laneEntries.any fun e => e.alloc.collides a then (s, .refuse .slotConflict)
  else
    (s.restoreAt h (restoredRecord serial k zone member settings alloc version disabled childVersion), .ok .none)

/-- RESTORE: the network state before the fields, then the field tests in request order (R10). -/
def State.restore (s : State) (h : Nat) (serial : Serial)
    (kind zone member parent sensitivity indicator cadence lane phase version disabled childVersion : Nat) :
    State × Reply :=
  if s.network.state != .halted then (s, .refuse .wrongState)
  else if !isHandle h then (s, .outOfRange 1)
  else
    match Kind.ofCode kind with
    | none => (s, .outOfRange 3)
    | some k =>
      if !isZone zone then (s, .outOfRange 4)
      else if !isZone member then (s, .outOfRange 5)
      else if 160 < parent then (s, .outOfRange 6)
      else if !(1 ≤ sensitivity && sensitivity ≤ 4) then (s, .outOfRange 7)
      else
        match IndicatorMode.ofCode indicator with
        | none => (s, .outOfRange 8)
        | some im =>
          if !cadences.contains cadence then (s, .outOfRange 9)
          else if 14 < lane || (lane == 0) != (parent != 0) then (s, .outOfRange 10)
          else if lane != 0 && cadence ≤ phase then (s, .outOfRange 11)
          else
            match yesNo disabled with
            | none => (s, .outOfRange 13)
            | some d =>
              s.restoreChecked h serial k zone member
                { sensitivity := sensitivity, indicator := im, cadence := cadence, parent := parent }
                lane phase version d childVersion

/-- RESTORE (R10 to R12). -/
def execRestore (h : Nat) (serial : Serial)
    (kind zone member parent sensitivity indicator cadence lane phase version disabled childVersion : Nat)
    (s : State) : Step :=
  s.serve 4 fun s =>
    s.restore h serial kind zone member parent sensitivity indicator cadence lane phase version disabled childVersion

/-! ### AMEND -/

/-- What an AMEND makes of a record's allocations and settings cadence (R17, R18). `clamped` says that R18 bounded the
settings cadence. -/
structure AllocPlan where
  current : Option Alloc
  next : Option Alloc
  cadence : Nat
  clamped : Bool
  deriving DecidableEq, Repr

/-- The entries of the map but for one entry of record h (R63: treated free). -/
def State.entriesBut (s : State) (h : Nat) (role : Role) : List LaneEntry :=
  s.laneEntries.filter fun e => !(e.owner == h && e.role == role)

/-- A record that becomes direct (R18): the settings cadence bounded by the clamp, and an allocation of it by first fit. -/
def State.planDirect (s : State) (cadence : Nat) : Option AllocPlan :=
  let top := cadenceMax s.network.params.missLimit s.network.params.ceiling
  let P := min cadence top
  (firstFit s.laneEntries P).map fun a => { current := some a, next := none, cadence := P, clamped := P < cadence }

/-- A changed cadence P of a record that remains direct (R17). -/
def State.planCadence (s : State) (h : Nat) (r : Record) (P : Nat) : Option AllocPlan :=
  if r.isPending then
    (firstFit (s.entriesBut h .current) P).map fun a => { current := some a, next := r.next, cadence := P, clamped := false }
  else
    match r.next with
    | none =>
      (firstFit s.laneEntries P).map fun a => { current := r.current, next := some a, cadence := P, clamped := false }
    | some _ =>
      if r.current.map Alloc.cadence == some P then
        some { current := r.current, next := none, cadence := P, clamped := false }
      else
        (firstFit (s.entriesBut h .next) P).map fun a =>
          { current := r.current, next := some a, cadence := P, clamped := false }

/-- The allocations and settings cadence after an AMEND of record h to the given parent, with `cadence` the granted cadence
where it differs from the stored one; absent when a search fails (R17, R18, R63). -/
def State.planAlloc (s : State) (h : Nat) (r : Record) (parent : Nat) (cadence : Option Nat) : Option AllocPlan :=
  if parent != 0 then
    some { current := none, next := none, cadence := cadence.getD r.settings.cadence, clamped := false }
  else if r.settings.parent != 0 then s.planDirect (cadence.getD r.settings.cadence)
  else
    match cadence with
    | none => some { current := r.current, next := r.next, cadence := r.settings.cadence, clamped := false }
    | some P => s.planCadence h r P

/-- The fields of an AMEND request as R13 validates them. -/
structure Amendment where
  zone : Option Nat
  member : Option Nat
  disabled : Option Bool
  sensitivity : Option Nat
  indicator : Option IndicatorMode
  cadence : Option Nat
  parent : Option Nat
  deriving DecidableEq, Repr

/-- An optional field's value where it differs from the stored one (R15). -/
def changed {α : Type} [DecidableEq α] (field : Option α) (stored : α) : Option α :=
  match field with
  | some v => if v = stored then none else some v
  | none => none

/-- 1 for a changed field. -/
def countChanged {α : Type} (c : Option α) : Nat := if c.isSome then 1 else 0

/-- The number of fields an AMEND changes (R15); the cadence is the granted one. -/
def Amendment.changes (am : Amendment) (r : Record) (granted : Option Nat) : Nat :=
  countChanged (changed am.zone r.zone) + countChanged (changed am.member r.member)
    + countChanged (changed am.disabled r.disabled) + countChanged (changed am.sensitivity r.settings.sensitivity)
    + countChanged (changed am.indicator r.settings.indicator) + countChanged (changed granted r.settings.cadence)
    + countChanged (changed am.parent r.settings.parent)

/-- Whether an AMEND changes a device-visible field: sensitivity class, indicator mode, parent or allocation (R16). -/
def Amendment.visible (am : Amendment) (r : Record) (plan : AllocPlan) : Bool :=
  (changed am.sensitivity r.settings.sensitivity).isSome || (changed am.indicator r.settings.indicator).isSome
    || (changed am.parent r.settings.parent).isSome || plan.current != r.current || plan.next != r.next

/-- A changed address (R19): the record leaves the member list of its old zone and joins that of its new one; nothing is
offered, and the old zone's prealarm test is run (R44). -/
def State.applyAddress (s : State) (h : Nat) (r : Record) (zone member : Nat) : State :=
  if zone = r.zone && member = r.member then s
  else (s.modRec h fun r => { r with zone := zone, member := member }).prealarmTest r.zone

/-- A changed disabled flag (R19, R51). -/
def State.applyDisabled (s : State) (h : Nat) (change : Option Bool) : State :=
  match change with
  | some true => s.disableRecord h
  | some false => s.enableRecord h
  | none => s

/-- The changed settings, allocations and parent of record h, and the settings version (R16 to R18). -/
def State.applySettings (s : State) (h : Nat) (am : Amendment) (r : Record) (plan : AllocPlan) : State :=
  let parent := am.parent.getD r.settings.parent
  let moved := parent != r.settings.parent
  let s := s.modRec h fun x =>
    { x with
      settings :=
        { sensitivity := am.sensitivity.getD r.settings.sensitivity,
          indicator := am.indicator.getD r.settings.indicator,
          cadence := plan.cadence, parent := parent },
      version := if am.visible r plan then r.version + 1 else r.version,
      current := plan.current, next := plan.next,
      timing := if moved && r.settings.parent == 0 then none else x.timing }
  if moved then
    ((s.bumpChildVersion r.settings.parent).bumpChildVersion parent).testReachFrom h
  else s

/-- An AMEND that has passed validation, applied in field order (R15 to R19, log 17). -/
def State.amendApply (s : State) (h : Nat) (am : Amendment) (r : Record) (plan : AllocPlan) : State :=
  let s := s.applyAddress h r (am.zone.getD r.zone) (am.member.getD r.member)
  let s := s.applyDisabled h (changed am.disabled r.disabled)
  s.applySettings h am r plan

/-- The position that ADDRESS_TAKEN reports (R13). -/
def addressPosition (member : Option Nat) : Nat := if member.isSome then 3 else 2

/-- The position that NO_CAPACITY reports (R13). -/
def capacityPosition (cadence : Option Nat) : Nat := if cadence.isSome then 7 else 8

/-- The zone and member fields' own tests, then the address test (R13). -/
def State.amendAddress (s : State) (h : Nat) (r : Record) (zone member : Option Nat) : Option Reply :=
  if zone.any fun z => !isZone z then some (.outOfRange 2)
  else if zone.any fun z => (s.zone? z).isNone then some (.refuseAt .noSuchZone 2)
  else if member.any fun m => !isZone m then some (.outOfRange 3)
  else if (zone.isSome || member.isSome) && s.addressTaken h (zone.getD r.zone) (member.getD r.member) then
    some (.refuseAt .addressTaken (addressPosition member))
  else none

/-- The parent field's tests (R13, R4): a parent equal to the stored one passes. -/
def State.amendParent (s : State) (h : Nat) (r : Record) (parent : Option Nat) : Option Reply :=
  match parent with
  | none => none
  | some p =>
    if 160 < p then some (.outOfRange 8)
    else if p = r.settings.parent then none
    else if s.badParent h p r.kind then some (.refuseAt .badParent 8)
    else if s.routeFull h p then some (.refuseAt .routeFull 8)
    else none

/-- AMEND of a PENDING or ACTIVE record with the disabled, sensitivity and indicator fields in range (R13 to R19). -/
def State.amendRecord (s : State) (h : Nat) (r : Record) (am : Amendment) : State × Reply :=
  match s.amendParent h r am.parent with
  | some refusal => (s, refusal)
  | none =>
    let granted := am.cadence.map s.grant
    match s.planAlloc h r (am.parent.getD r.settings.parent) (changed granted r.settings.cadence) with
    | none => (s, .refuseAt .noCapacity (capacityPosition am.cadence))
    | some plan =>
      let clamped := (am.cadence.any fun q => s.grantReported q) || plan.clamped
      (s.amendApply h am r plan,
        .okOr (adjustedIf clamped 7 .clamped)
          (.amended (am.changes r granted) (if am.visible r plan then r.version + 1 else r.version)))

/-- The tests of the disabled, sensitivity and indicator fields (R13), then the rest. -/
def State.amendFields (s : State) (h : Nat) (r : Record)
    (zone member disabled sensitivity indicator cadence parent : Option Nat) : State × Reply :=
  match s.amendAddress h r zone member with
  | some refusal => (s, refusal)
  | none =>
    if disabled.any fun d => (yesNo d).isNone then (s, .outOfRange 4)
    else if sensitivity.any fun c => !(1 ≤ c && c ≤ 4) then (s, .outOfRange 5)
    else if indicator.any fun i => (IndicatorMode.ofCode i).isNone then (s, .outOfRange 6)
    else
      s.amendRecord h r
        { zone := zone, member := member, disabled := disabled.bind yesNo, sensitivity := sensitivity,
          indicator := indicator.bind IndicatorMode.ofCode, cadence := cadence, parent := parent }

/-- AMEND finds the record (R13), then tests and applies the fields. -/
def State.amend (s : State) (h : Nat) (zone member disabled sensitivity indicator cadence parent : Option Nat) :
    State × Reply :=
  if !isHandle h then (s, .outOfRange 1)
  else
    match s.rec? h with
    | none => (s, .refuseAt .noSuchRecord 1)
    | some r =>
      if r.isRetiring then (s, .refuseAt .wrongState 1)
      else s.amendFields h r zone member disabled sensitivity indicator cadence parent

/-- AMEND (R13 to R19). -/
def execAmend (h : Nat) (zone member disabled sensitivity indicator cadence parent : Option Nat) (s : State) : Step :=
  s.serve 2 fun s => s.amend h zone member disabled sensitivity indicator cadence parent

/-! ### RETIRE -/

/-- An ACTIVE record enters RETIRING (R21). -/
def State.enterRetiring (s : State) (h : Nat) (r : Record) : State :=
  let grace := 3 * s.effectivePeriod h
  let s := s.modRec h fun r => { r with lifecycle := .retiring grace }
  let s := s.prealarmTest r.zone
  let s := s.bumpChildVersion r.settings.parent
  s.request h .retireNotice

/-- RETIRE's handling (R20). -/
def State.retire (s : State) (h : Nat) : State × Reply :=
  if !isHandle h then (s, .outOfRange 1)
  else
    match s.rec? h with
    | none => (s, .refuse .noSuchRecord)
    | some r =>
      if r.isRelay && !(s.children h).isEmpty then (s, .refuse .hasChildren)
      else
        match r.lifecycle with
        | .pending => (s.vacate h, .ok (.retired none))
        | .active =>
          if r.link.state.isDown then (s.vacate h, .ok (.retired none))
          else
            let s := s.enterRetiring h r
            (s, .ok (.retired ((s.rec? h).map Record.lifecycle)))
        | .retiring g => (s, .ok (.retired (some (.retiring g))))

/-- RETIRE (R20). -/
def execRetire (h : Nat) (s : State) : Step := s.serve 3 fun s => s.retire h

/-! ### Lookups -/

/-- READ_RECORD's answer (R26). -/
def State.readRecord (s : State) (h : Nat) : Reply :=
  if !isHandle h then .outOfRange 1
  else
    match s.rec? h with
    | none => .refuse .noSuchRecord
    | some r => .ok (.record h r (if r.isRelay then s.childList h else []))

/-- READ_RECORD (R26). -/
def execReadRecord (h : Nat) (s : State) : Step := s.serveRead 5 fun s => s.readRecord h

/-- FIND_SERIAL's answer (R27). -/
def State.lookupSerial (s : State) (serial : Serial) : Reply :=
  match s.findSerial serial with
  | none => .refuse .noSuchRecord
  | some (h, r) => .ok (.found h r.lifecycle r.kind r.zone r.member)

/-- FIND_SERIAL (R27). -/
def execFindSerial (serial : Serial) (s : State) : Step := s.serveRead 6 fun s => s.lookupSerial serial

/-- OPEN_ZONE_PAGE's handling (R28). -/
def State.openPage (s : State) (z : Nat) : State × Reply :=
  if !isZone z then (s, .outOfRange 1)
  else if (s.zone? z).isNone then (s, .refuse .noSuchZone)
  else (s.setCursor (some (z, 0)), .ok (.members (s.members z).length))

/-- OPEN_ZONE_PAGE (R28). -/
def execOpenZonePage (z : Nat) (s : State) : Step := s.serve 7 fun s => s.openPage z

/-- READ_NEXT's handling (R29). -/
def State.readNextMember (s : State) : State × Reply :=
  match s.cursor with
  | none => (s, .refuse .noCursor)
  | some (z, last) =>
    match (s.members z).find? fun m => last < m.2 with
    | none => (s, .refuse .endOfPage)
    | some (h, member) =>
      match s.rec? h with
      | none => (s, .refuse .endOfPage)
      | some r =>
        (s.setCursor (some (z, member)),
          .ok (.zoneSummary h member r.kind r.lifecycle r.link.state r.cond.latched r.cond.fire r.cond.faults r.disabled))

/-- READ_NEXT (R29). -/
def execReadNext (s : State) : Step := s.serve 8 State.readNextMember

end Sys2Proof.Machine
end

