-- ==== Sys2Proof/Machine/Zones.lean ====
section
/-! DEFINITION. The meanings of the zone requests (chapter 2): DEFINE_ZONE, AMEND_ZONE, DELETE_ZONE, READ_ZONE and
RESET_CONDITIONS. -/

namespace Sys2Proof.Machine

/-- A window held at `old` below 8 and clamped to 240 above it (R40, R41). -/
def holdWindow (old w : Nat) : Nat := if w < 8 then old else min w 240

/-- The adjustment entry of a window field, if it is held or clamped (R40, R41). -/
def windowAdjusted (w position : Nat) : List (Nat × Adjust) :=
  if w < 8 then [(position, .held)] else if 240 < w then [(position, .clamped)] else []

/-! ### DEFINE_ZONE -/

/-- DEFINE_ZONE's handling (R40, R39); the default window is 60. Of several fields out of range the lowest position is answered
(log 36). -/
def State.defineZone (s : State) (zone mode window disabled : Nat) : State × Reply :=
  if !isZone zone then (s, .outOfRange 1)
  else
    match ZoneMode.ofCode mode with
    | none => (s, .outOfRange 2)
    | some m =>
      match yesNo disabled with
      | none => (s, .outOfRange 4)
      | some d =>
        if (s.zone? zone).isSome then (s, .refuse .wrongState)
        else
          let w := holdWindow 60 window
          (s.setZones (Tbl.set s.zones zone { mode := m, window := w, disabled := d, state := .quiet }),
            .okOr (windowAdjusted window 3) (.window w))

/-- DEFINE_ZONE (R40). -/
def execDefineZone (zone mode window disabled : Nat) (s : State) : Step :=
  s.serve 9 fun s => s.defineZone zone mode window disabled

/-! ### AMEND_ZONE -/

/-- A changed mode (R41): under SINGLE a zone in WAITING goes to FIRE at once. -/
def State.applyMode (s : State) (z : Nat) (m : ZoneMode) : State :=
  let s := s.modZone z fun zn => { zn with mode := m }
  match s.zone? z with
  | some { state := .waiting _ _ _, .. } => if m == .single then s.zoneEnters z .fire else s
  | _ => s

/-- The fields of an AMEND_ZONE that differ from the stored ones, mode before disabled (R41, R50). The window stands between
them, so a wait that enabling starts takes the new window: R41 does not place it (log 34). -/
def State.applyZoneChanges (s : State) (z : Nat) (mode : Option ZoneMode) (window : Option Nat) (disabled : Option Bool) :
    State :=
  let s := match mode with | some m => s.applyMode z m | none => s
  let s := match window with | some w => s.modZone z fun zn => { zn with window := w } | none => s
  match disabled with
  | some true => s.disableZone z
  | some false => s.enableZone z
  | none => s

/-- 1 for a present field that differs from the stored one (R41). -/
def countDiffers {α : Type} [DecidableEq α] (field : Option α) (stored : α) : Nat :=
  match field with
  | some v => if v = stored then 0 else 1
  | none => 0

/-- A present field where it differs from the stored one (R41). -/
def differing {α : Type} [DecidableEq α] (field : Option α) (stored : α) : Option α :=
  match field with
  | some v => if v = stored then none else some v
  | none => none

/-- AMEND_ZONE of a defined zone with its fields in range (R41). -/
def State.amendDefined (s : State) (z : Nat) (zn : Zone) (mode : Option ZoneMode) (window : Option Nat)
    (disabled : Option Bool) : State × Reply :=
  let w := window.map (holdWindow zn.window)
  let changes := countDiffers mode zn.mode + countDiffers w zn.window + countDiffers disabled zn.disabled
  let s := s.applyZoneChanges z (differing mode zn.mode) (differing w zn.window) (differing disabled zn.disabled)
  let after := match s.zone? z with | some zn => zn.state | none => .quiet
  (s, .okOr ((window.map fun w => windowAdjusted w 3).getD []) (.zoneAmended changes after))

/-- AMEND_ZONE's validation (R41), then its changes. Of mode and disabled both out of range the mode's position is answered
(log 36); an undefined zone with either out of range is answered NO_SUCH_ZONE (log 39). -/
def State.amendZone (s : State) (z : Nat) (mode window disabled : Option Nat) : State × Reply :=
  if !isZone z then (s, .outOfRange 1)
  else
    match s.zone? z with
    | none => (s, .refuse .noSuchZone)
    | some zn =>
      if mode.any fun m => (ZoneMode.ofCode m).isNone then (s, .outOfRange 2)
      else if disabled.any fun d => (yesNo d).isNone then (s, .outOfRange 4)
      else s.amendDefined z zn (mode.bind ZoneMode.ofCode) window (disabled.bind yesNo)

/-- AMEND_ZONE (R41). -/
def execAmendZone (z : Nat) (mode window disabled : Option Nat) (s : State) : Step :=
  s.serve 10 fun s => s.amendZone z mode window disabled

/-! ### DELETE_ZONE and READ_ZONE -/

/-- DELETE_ZONE's handling (R42, R30): the page cursor is closed if it is open on the zone. -/
def State.deleteZone (s : State) (z : Nat) : State × Reply :=
  if !isZone z then (s, .outOfRange 1)
  else if (s.zone? z).isNone then (s, .refuse .noSuchZone)
  else if !(s.members z).isEmpty then
    (s, { result := .zoneNotEmpty, adjusted := [], payload := .members (s.members z).length })
  else
    let s := s.setZones (Tbl.drop s.zones z)
    (match s.cursor with
     | some (cz, _) => if cz = z then s.setCursor none else s
     | none => s, .ok .none)

/-- DELETE_ZONE (R42). -/
def execDeleteZone (z : Nat) (s : State) : Step := s.serve 11 fun s => s.deleteZone z

/-- READ_ZONE's answer (R43). -/
def State.readZone (s : State) (z : Nat) : Reply :=
  if !isZone z then .outOfRange 1
  else
    match s.zone? z with
    | none => .refuse .noSuchZone
    | some zn => .ok (.zone zn (s.members z))

/-- READ_ZONE (R43). -/
def execReadZone (z : Nat) (s : State) : Step := s.serveRead 12 fun s => s.readZone z

/-! ### RESET_CONDITIONS -/

/-- Whether RESET_CONDITIONS rearms a member (R52 step 3). -/
def Record.needsRearm (r : Record) : Bool := r.kind != .callPoint && r.cond.fire != .none

/-- Record r with its reported fire state NONE. -/
def Record.quietened (r : Record) : Record := { r with cond := { r.cond with fire := .none } }

/-- One member of a zone that is reset (R52 steps 3 and 4). -/
def State.resetMember (s : State) (h : Nat) : State :=
  match s.rec? h with
  | none => s
  | some r =>
    if r.needsRearm then (s.request h .rearm).modRec h Record.quietened
    else if r.kind == .callPoint && r.cond.fire == .alarm then s.modRec h Record.quietened
    else s

/-- The number of members of a zone that RESET_CONDITIONS rearms (R52). -/
def State.rearmCount (s : State) (z : Nat) : Nat :=
  (s.members z).countP fun m =>
    match s.rec? m.1 with
    | some r => r.needsRearm
    | none => false

/-- One zone reset (R52 steps 1 to 4); nothing is posted. R52 orders the zones and the steps, not the members of one zone:
the model takes them in ascending member order, so their REARM requests reach the queue in that order (log 33). -/
def State.resetZone (s : State) (z : Nat) : State :=
  let members := s.members z
  let s := s.setZoneState z .quiet
  let s := members.foldl
    (fun s m => s.modRec m.1 fun r => { r with cond := { r.cond with latched := false } }) s
  members.foldl (fun s m => s.resetMember m.1) s

/-- The zones that a selector names, in ascending number (R52). -/
def State.selectedZones (s : State) (selector : Nat) : List Nat :=
  if selector = 0 then s.zones.map Prod.fst else [selector]

/-- RESET_CONDITIONS' handling (R52). -/
def State.resetConditions (s : State) (selector : Nat) : State × Reply :=
  if 32 < selector then (s, .outOfRange 1)
  else if selector != 0 && (s.zone? selector).isNone then (s, .refuse .noSuchZone)
  else
    let zones := s.selectedZones selector
    (zones.foldl State.resetZone s, .ok (.conditionsReset zones.length (zones.map s.rearmCount).sum))

/-- RESET_CONDITIONS (R52). -/
def execResetConditions (selector : Nat) (s : State) : Step := s.serve 13 fun s => s.resetConditions selector

end Sys2Proof.Machine
end

