-- ==== Sys2Proof/Machine/Dispatch.lean ====
section
/-! DEFINITION. exec: one arm per command, each one call of that command's meaning. -/

namespace Sys2Proof.Machine

/-- The effect of one command on everything but the queue of waiting commands. -/
def exec (i : Instr) (s : State) : Host.Outcome State Fault Refusal :=
  match i with
  | .powerOnReset => Sys2Proof.Machine.execPowerOnReset s
  | .resetPulse => Sys2Proof.Machine.execResetPulse s
  | .answerRead count => Sys2Proof.Machine.execAnswerRead count s
  | .requestDiscarded => Sys2Proof.Machine.execRequestDiscarded s
  | .malformedRequest bytes => Sys2Proof.Machine.execMalformedRequest bytes s
  | .enrol serial kind zone member parent sensitivity indicator cadence => Sys2Proof.Machine.execEnrol serial kind zone member parent sensitivity indicator cadence s
  | .amend handle zone member disabled sensitivity indicator cadence parent => Sys2Proof.Machine.execAmend handle zone member disabled sensitivity indicator cadence parent s
  | .retire handle => Sys2Proof.Machine.execRetire handle s
  | .restore handle serial kind zone member parent sensitivity indicator cadence lane phase version disabled childVersion => Sys2Proof.Machine.execRestore handle serial kind zone member parent sensitivity indicator cadence lane phase version disabled childVersion s
  | .readRecord handle => Sys2Proof.Machine.execReadRecord handle s
  | .findSerial serial => Sys2Proof.Machine.execFindSerial serial s
  | .openZonePage zone => Sys2Proof.Machine.execOpenZonePage zone s
  | .readNext => Sys2Proof.Machine.execReadNext s
  | .defineZone zone mode window disabled => Sys2Proof.Machine.execDefineZone zone mode window disabled s
  | .amendZone zone mode window disabled => Sys2Proof.Machine.execAmendZone zone mode window disabled s
  | .deleteZone zone => Sys2Proof.Machine.execDeleteZone zone s
  | .readZone zone => Sys2Proof.Machine.execReadZone zone s
  | .resetConditions selector => Sys2Proof.Machine.execResetConditions selector s
  | .readLane lane => Sys2Proof.Machine.execReadLane lane s
  | .snapshot => Sys2Proof.Machine.execSnapshot s
  | .openCommissioning valueA lengthA enabledA valueB lengthB enabledB duration => Sys2Proof.Machine.execOpenCommissioning valueA lengthA enabledA valueB lengthB enabledB duration s
  | .closeCommissioning => Sys2Proof.Machine.execCloseCommissioning s
  | .readCandidates => Sys2Proof.Machine.execReadCandidates s
  | .dismissCandidate serial => Sys2Proof.Machine.execDismissCandidate serial s
  | .readQueue => Sys2Proof.Machine.execReadQueue s
  | .changeChannel index => Sys2Proof.Machine.execChangeChannel index s
  | .readChannel => Sys2Proof.Machine.execReadChannel s
  | .readTiming handle => Sys2Proof.Machine.execReadTiming handle s
  | .takeAttention => Sys2Proof.Machine.execTakeAttention s
  | .setNotify causes => Sys2Proof.Machine.execSetNotify causes s
  | .clearNotify causes => Sys2Proof.Machine.execClearNotify causes s
  | .setEdges fire zone link fault => Sys2Proof.Machine.execSetEdges fire zone link fault s
  | .ackFlags flags => Sys2Proof.Machine.execAckFlags flags s
  | .setFlagNotify flags => Sys2Proof.Machine.execSetFlagNotify flags s
  | .clearFlagNotify flags => Sys2Proof.Machine.execClearFlagNotify flags s
  | .start => Sys2Proof.Machine.execStart s
  | .startLockObtained => Sys2Proof.Machine.execStartLockObtained s
  | .startLockTimeout => Sys2Proof.Machine.execStartLockTimeout s
  | .halt => Sys2Proof.Machine.execHalt s
  | .setParameters networkId plan missLimit ceiling floor hysteresis threshold agility guard snapshotMode => Sys2Proof.Machine.execSetParameters networkId plan missLimit ceiling floor hysteresis threshold agility guard snapshotMode s
  | .readParameters => Sys2Proof.Machine.execReadParameters s
  | .readNetwork => Sys2Proof.Machine.execReadNetwork s
  | .readIdentity => Sys2Proof.Machine.execReadIdentity s
  | .beacon => Sys2Proof.Machine.execBeacon s
  | .uplinkFrameReceived instant level bytes => Sys2Proof.Machine.execUplinkFrameReceived instant level bytes s
  | .laneSlotClose => Sys2Proof.Machine.execLaneSlotClose s
  | .openSlotClose => Sys2Proof.Machine.execOpenSlotClose s
  | .downlinkSlot => Sys2Proof.Machine.execDownlinkSlot s
  | .frameEnd level => Sys2Proof.Machine.execFrameEnd level s
  | .zoneWindowExpiry zone => Sys2Proof.Machine.execZoneWindowExpiry zone s
  | .retireGraceExpiry handle => Sys2Proof.Machine.execRetireGraceExpiry handle s
  | .commissioningWindowExpiry => Sys2Proof.Machine.execCommissioningWindowExpiry s
  | .autoChangeover => Sys2Proof.Machine.execAutoChangeover s
  | .changeoverComplete => Sys2Proof.Machine.execChangeoverComplete s
  | .networkFormed => Sys2Proof.Machine.execNetworkFormed s
  | .networkHalted => Sys2Proof.Machine.execNetworkHalted s
  | .hyperframeEnd => Sys2Proof.Machine.execHyperframeEnd s

end Sys2Proof.Machine
end

