-- ==== Sys2Proof/Machine/Step.lean ====
section
/-! DEFINITION. One step of the part: the command at the front of the queue is taken and carried out (log 2). -/

namespace Sys2Proof.Machine

/-- The state with another queue of waiting commands. -/
def State.setPending (s : State) (x : List Instr) : State := { s with pending := x }

/-- One step: the command at the front of the queue runs with the queue's rest; with none waiting the part idles (log 2). -/
def step (s : State) : Host.Outcome State Fault Refusal :=
  match s.pending with
  | [] => .next s
  | c :: rest => exec c (s.setPending rest)

/-- The command that a word spells put at the front of the queue; s where it spells none, which is every word, since no row
of the table has bits. -/
def State.withFetchWord (s : State) (nbits w : Nat) : State :=
  match decodeTableWord nbits w with
  | some c => s.setPending (c :: s.pending)
  | none => s

end Sys2Proof.Machine
end

