-- ==== Sys2Proof/Safety.lean ====
section
/-! DEFINITION. What counts as a safe step and a safe run, and the laws that the manual says every state of the part keeps. -/

namespace Sys2Proof.Machine

/-- A step is safe when it ends in a next state: no fault and no refusal. -/
def SafeStep (s : State) : Prop := ∃ t, step s = .next t

/-- The states that k safe steps lead to. -/
inductive Reaches : Nat → State → State → Prop where
  | here (s : State) : Reaches 0 s s
  | next {k : Nat} {s t u : State} (h : step s = .next t) (r : Reaches k t u) : Reaches (k + 1) s u

/-- A state is safe when every step of every run from it is. -/
def Safe (s : State) : Prop := ∀ k t, Reaches k s t → SafeStep t

/-! ### The laws of the blocks -/

/-- The tables hold one entry for each number, in rising order, and only numbers the part has (R1, R39). -/
structure TablesLegal (s : State) : Prop where
  records : Tbl.Canonical s.records
  zones : Tbl.Canonical s.zones
  handles : ∀ e ∈ s.records, isHandle e.1 = true
  zoneNumbers : ∀ e ∈ s.zones, isZone e.1 = true

/-- No two records hold one serial (R2), and no two PENDING or ACTIVE records hold one address (R3, R44). -/
structure RegistryLegal (s : State) : Prop where
  tables : TablesLegal s
  serials : ∀ g h q r, s.rec? g = some q → s.rec? h = some r → q.serial = r.serial → g = h
  addresses : ∀ g h q r, s.rec? g = some q → s.rec? h = some r → q.isMember = true → r.isMember = true →
    q.zone = r.zone → q.member = r.member → g = h

/-- Whether record q stands below relay h: h is its parent or its parent's parent (R4). -/
def State.Below (s : State) (h : Nat) (q : Record) : Prop :=
  q.settings.parent = h ∨ s.parentOf q.settings.parent = h

/-- The law of the relay tree (R4): every parent is 0 or a PENDING or ACTIVE relay, no parent chain holds more than two
relays, a relay has at most 12 children and a top relay at most 24 descendants. -/
structure TreeLegal (s : State) : Prop where
  tables : TablesLegal s
  parents : ∀ h r, s.rec? h = some r → r.settings.parent ≠ 0 →
    ∃ p, s.rec? r.settings.parent = some p ∧ p.isRelay = true ∧ p.isMember = true
  depth : ∀ h r p, s.rec? h = some r → s.rec? r.settings.parent = some p → p.settings.parent ≠ 0 →
    s.parentOf p.settings.parent = 0
  children : ∀ h, isHandle h = true → (s.children h).length ≤ 12
  descendants : ∀ h r, s.rec? h = some r → r.settings.parent = 0 → (s.descendants h).length ≤ 24

/-- The law of reachability: a PENDING record is UNHEARD (R93), an ACTIVE one is UNREACHABLE exactly when its chain holds a
relay that is LOST or UNREACHABLE (R89), and a RETIRING one is neither LOST nor UNREACHABLE (R24). -/
structure ReachLegal (s : State) : Prop where
  pending : ∀ h r, s.rec? h = some r → r.isPending = true → r.link.state = .unheard
  active : ∀ h r, s.rec? h = some r → r.isActive = true → (r.link.state = .unreachable ↔ s.chainBroken h = true)
  retiring : ∀ h r, s.rec? h = some r → r.isRetiring = true → r.link.state.isDown = false

/-- The law of the Zone Table (Table 2-3, R50): windows of 8 to 240 frames, a disabled zone QUIET, and a wait that names a
handle and does not outlast 240 frames. -/
structure ZonesLegal (s : State) : Prop where
  windows : ∀ z zn, s.zone? z = some zn → 8 ≤ zn.window ∧ zn.window ≤ 240
  disabled : ∀ z zn, s.zone? z = some zn → zn.disabled = true → zn.state = .quiet
  waits : ∀ z zn first v n, s.zone? z = some zn → zn.state = .waiting first v n → isHandle first = true ∧ n ≤ 240

/-- The ranges of Table 4-1. -/
structure LinkBlock.InRange (b : LinkBlock) : Prop where
  lqf : ∀ q, b.lqf = some q → q ≤ 1008
  missRun : b.missRun ≤ 255
  history : b.history.length ≤ 8
  live : b.live ≤ 65535
  snap : b.snap ≤ 65535

/-- Every record's link block is in range (R78, R79, R80, R96). -/
def LinksLegal (s : State) : Prop := ∀ e ∈ s.records, e.2.link.InRange

/-- An allocation as Table 3-5 allows it. -/
structure Alloc.Legal (a : Alloc) : Prop where
  lane : isLane a.lane = true
  cadence : a.cadence ∈ cadences
  phase : a.phase < a.cadence

/-- The allocations of one record (R62), and its settings cadence (Table 1-3). -/
structure Record.AllocLegal (r : Record) : Prop where
  direct : r.current.isSome = true ↔ r.settings.parent = 0
  next : r.next.isSome = true → r.current.isSome = true
  currentLegal : ∀ a, r.current = some a → a.Legal
  nextLegal : ∀ a, r.next = some a → a.Legal
  cadence : r.settings.cadence ∈ cadences

/-- The law of the Lane Occupancy Map: no cell is owned by two allocations (R61), and records hold allocations as R62
says. -/
structure MapLegal (s : State) : Prop where
  tables : Tbl.Canonical s.records
  records : ∀ e ∈ s.records, e.2.AllocLegal
  apart : s.laneEntries.Pairwise fun a b => a.alloc.collides b.alloc = false

/-- The supervision law (R58): every supervised cadence P has P × M ≤ C; and M and C in their ranges (Table 10-6). -/
structure CeilingLegal (s : State) : Prop where
  missLimit : 2 ≤ s.network.params.missLimit ∧ s.network.params.missLimit ≤ 8
  ceiling : 32 ≤ s.network.params.ceiling ∧ s.network.params.ceiling ≤ 480
  cadences : ∀ e ∈ s.records, ∀ P ∈ e.2.supervisedCadences, P * s.network.params.missLimit ≤ s.network.params.ceiling

/-- The law of the Downlink Queue (R138): at most 24 entries, no two of one final destination and kind. -/
structure QueueLegal (s : State) : Prop where
  length : s.queue.length ≤ 24
  pairs : s.queue.Pairwise fun a b => a.samePair b = false

/-- The law of the Attention List (R163): urgent entries first, each target once, each entry with a cause. -/
structure AttentionLegal (s : State) : Prop where
  order : s.attention.entries.Pairwise fun a b => b.urgent = true → a.urgent = true
  targets : s.attention.entries.Pairwise fun a b => a.target ≠ b.target
  causes : ∀ e ∈ s.attention.entries, e.marks ≠ 0

/-- The timer's phases that the fixed sequence of R55 has, and what a frame end may leave due in a network state. -/
def TimerPhase.legal (st : NetState) : TimerPhase → Prop
  | .stopped => True
  | .beaconDue => True
  | .inSlot n => n ≤ 19
  | .downlinkDue => True
  | .frameEnd due => (due.formed = true → st = .forming) ∧ (due.halted = true → st = .halting)

/-- The law between the network state, the Frame Timer, the Command Port and the Channel Monitor: the timer is stopped
exactly while HALTED (R54), only a START in HALTED keeps the port WORKING (R177), and a countdown exists only in RUNNING
(R151). -/
structure ControlLegal (s : State) : Prop where
  timer : s.timer.phase = .stopped ↔ s.network.state = .halted
  phase : s.timer.phase.legal s.network.state
  working : s.port.state = .working → s.network.state = .halted
  changeover : s.monitor.changeover.isSome = true → s.network.state = .running

/-- The law of the Channel Monitor (Table 8-1, R152): a plan of 1 to 4 channels, the indexes in it, the histories and
counts in range. -/
structure ChannelLegal (s : State) : Prop where
  plan : badPlan s.plan = false
  index : s.monitor.index < s.plan.length
  history : s.monitor.history.length ≤ 32
  persistence : s.monitor.persistence ≤ 255
  countdown : ∀ c, s.monitor.changeover = some c → 1 ≤ c.countdown ∧ c.countdown ≤ 8 ∧ c.target < s.plan.length

/-- The law of the Candidate Table (Table 6-5, R130): at most 8 entries, no serial twice, no serial that a record holds, and
none while HALTED. -/
structure CandidatesLegal (s : State) : Prop where
  length : s.commissioning.candidates.length ≤ 8
  serials : (s.commissioning.candidates.map Candidate.serial).Nodup
  unknown : ∀ c ∈ s.commissioning.candidates, ∀ e ∈ s.records, e.2.serial ≠ c.serial
  halted : s.network.state = .halted → s.commissioning.candidates = []

/-! ### Vacating, as the commands that vacate show it -/

/-- Record h, which stood as r, vacated between s and t (R25): its slot is VACANT, its messages are gone, its relay's
child-list version is one up if it was in the child list, a LIFECYCLE mark stands against its handle if that cause is
enabled, and no other record changes. Where it was a member its zone's prealarm test is run (R44, R48) before the LIFECYCLE cause
is posted; of the zones nothing else changes but the mark of a first knocker that is vacated, and of the frames that wait for
their slot's close nothing but the mark of a sender that is (log 16). -/
structure Vacated (h : Nat) (r : Record) (s t : State) : Prop where
  gone : t.rec? h = none
  parent : r.settings.parent ≠ h → t.rec? r.settings.parent = (s.rec? r.settings.parent).map fun p =>
    if r.isMember then { p with route := p.route.map fun x => { x with version := x.version + 1 } } else p
  others : ∀ g, g ≠ h → g ≠ r.settings.parent → t.rec? g = s.rec? g
  zones : ∀ z, z ≠ r.zone → t.zone? z = (s.zone? z).map (markKnockerVacated h z)
  tested :
    let dropped := { s with records := Tbl.drop s.records h, zones := Tbl.mapValues (markKnockerVacated h) s.zones }
    let left := if r.isMember then dropped.prealarmTest r.zone else dropped
    t.zones = left.zones ∧ t.attention = left.attention.post (.record h) .lifecycle false
  held : t.held = s.held.map (markSenderVacated h)
  queue : t.queue = s.queue.filter fun e => e.dest != h
  posted : s.attention.keeps .lifecycle = true →
    ∃ e ∈ t.attention.entries, e.target = .record h ∧ e.marks.getLsbD 9 = true
  frame : t = { s with
    records := t.records, zones := t.zones, held := t.held, queue := t.queue, attention := t.attention, port := t.port }

end Sys2Proof.Machine
end

