-- ==== Sys2Proof/WellFormed.lean ====
section
/-! DEFINITION. Which commands can occur: operands that fit the fields that carry them (R182, Table 10-4), and events whose
operands name something the part has. -/

namespace Sys2Proof

/-- Whether a value fits a request field of the type (R182). -/
def FieldVal.fits : FieldType → FieldVal → Bool
  | .u8, .num n => n < 256
  | .u16, .num n => n < 65536
  | .u40, .serial _ => true
  | .s8, .signed i => -128 ≤ i && i ≤ 127
  | .plan, .list l => l.length < 256 && l.all (· < 256)
  | _, _ => false

/-- Whether every present field fits its type and no mandatory field is absent. -/
def fieldsFit : List (FieldType × Bool) → List (Option FieldVal) → Bool
  | [], [] => true
  | (ty, _) :: shape, some v :: vs => v.fits ty && fieldsFit shape vs
  | (_, mandatory) :: shape, none :: vs => !mandatory && fieldsFit shape vs
  | _, _ => false

/-- Whether a request's fields fit its frame: each its own field, and all of them the length byte (Table 11-2). -/
def requestFits (kind : Nat) (vals : List (Option FieldVal)) : Bool :=
  match requestShape kind with
  | some shape => fieldsFit shape vals && (writeFields shape vals).length + 2 < 256
  | none => false

/-- Whether a command can occur. A request's fields fit its frame. The bytes of a malformed request spell no request and no
answer read. A frame's instant lies in a frame of 500 ms. An expiry names a zone or a handle. -/
def Instr.wellFormed (i : Instr) : Bool :=
  match requestFields i with
  | some (kind, vals) => requestFits kind vals
  | none =>
    match i with
    | .malformedRequest bytes => decodeTransaction bytes == i
    | .uplinkFrameReceived instant _ _ => instant < 500000
    | .zoneWindowExpiry zone => Machine.isZone zone
    | .retireGraceExpiry h => Machine.isHandle h
    | _ => true

end Sys2Proof
end

