-- ==== Sys2Proof/Certificates/Slice0/Obligations.lean ====
section
/-! DEFINITION. The statements about the part, for the provers. A host request is written while the port is not WORKING unless
a statement says otherwise; "answered" is Port.answering. -/

open Sys2Proof Sys2Proof.Machine

/-! ### The step, the queue and the wire -/

/-- A step takes the command at the front of the queue and runs it with the queue's rest; with none waiting the part idles
(log 2). -/
def Obligations.StepTakesFrontCommand : Prop :=
  (∀ (s : State) (c : Instr) (rest : List Instr), s.pending = c :: rest → step s = exec c (s.setPending rest))
    ∧ ∀ s : State, s.pending = [] → step s = .next s

/-- Every command ends in a next state and leaves the queue of waiting commands: nothing faults and nothing is refused. That an
event out of its moment ends in a next state is the model's choice (log 1, log 21), and so is what the queue is (log 2) and
that a reset leaves it (log 20). -/
def Obligations.EveryCommandCompletes : Prop :=
  ∀ (c : Instr) (s : State), ∃ t, exec c s = .next t ∧ t.pending = s.pending

/-- A request whose fields fit its frame is read back from the transaction that writes it, and a transaction that spells a
request is the one that writes it: one frame for one request, no byte dropped (Table 11-2, R182). -/
def Obligations.RequestFramesReadAndWritten : Prop :=
  (∀ i : Instr, i.wellFormed = true → (requestFields i).isSome = true → decodeTransaction (encodeRequest i) = i)
    ∧ ∀ (bytes : List Byte) (i : Instr), decodeTransaction bytes = i → (requestFields i).isSome = true →
      i.wellFormed = true ∧ encodeRequest i = bytes

/-- Air frames (R118, 11.4, Table 11-6): the CRC, which makes a whole frame's remainder 0; an uplink frame is taken exactly when
its bytes are the length byte, the network identity, a body that Table 11-6 has with its fields in range, and the CRC; and the
bytes of every frame that is transmitted. That the kind bytes are hexadecimal, 0x10 for the beacon and 0x21 to 0x27 for the
downlink kinds, is the model's reading of 11.4 (log 29). -/
def Obligations.AirFramesReadAndWritten : Prop :=
  let two := fun n : Nat => [BitVec.ofNat 8 (n / 256), BitVec.ofNat 8 n]
  let one := fun n : Nat => (BitVec.ofNat 8 n : Byte)
  let serial := fun s : Serial =>
    [s.extractLsb' 32 8, s.extractLsb' 24 8, s.extractLsb' 16 8, s.extractLsb' 8 8, s.extractLsb' 0 8]
  let bit := fun c : BitVec 16 => if c.getLsbD 15 then (c <<< 1) ^^^ 0x1021#16 else c <<< 1
  let fire := fun f : Byte => if f = 0 then FireState.none else if f = 1 then .prealarm else .alarm
  let handle := fun h : Byte => 1 ≤ h.toNat ∧ h.toNat ≤ 160
  let report := fun f q fs bt v : Byte =>
    ({ fire := fire f, seq := q.toNat, faults := fs.setWidth 4, battery := bt.toNat, version := v } : Report)
  let place := fun a : Option Alloc => match a with | some a => [one a.lane, one a.cadence, one a.phase] | none => [0, 0, 0]
  let settings := fun (t : Settings) (v : Version) =>
    [one t.sensitivity, one (match t.indicator with | .off => 0 | .alarmOnly => 1 | .heartbeat => 2), one t.cadence,
      one t.parent, v]
  (∀ l : List Byte, crc16 l =
      l.foldl (fun (c : BitVec 16) (b : Byte) => bit^[8] (c ^^^ (b.setWidth 16 <<< (8 : Nat)))) 0xFFFF#16)
    ∧ (∀ l : List Byte, crc16 (l ++ two (crc16 l).toNat) = 0)
    ∧ (∀ (id : Nat) (bytes : List Byte) (f : Uplink), id < 65536 →
        (parseUplink id bytes = some f ↔ ∃ body, parseBody body = some f ∧ body.length ≤ 251
          ∧ bytes = one (body.length + 4) :: two id ++ body ++ two (crc16 (two id ++ body)).toNat))
    ∧ (∀ h f q fs bt v : Byte, parseBody [0x01, h, f, q, fs, bt, v, 0x00] =
        if handle h ∧ f.toNat ≤ 2 ∧ fs.toNat ≤ 15 then some (.checkIn h.toNat (report f q fs bt v) none) else none)
    ∧ (∀ (h f q fs bt v cv n : Byte) (rest : List Byte),
        (handle h ∧ f.toNat ≤ 2 ∧ fs.toNat ≤ 15 ∧ n.toNat ≤ 24 ∧ rest.length = 10 * n.toNat →
          ∃ es, parseBody (0x01 :: h :: f :: q :: fs :: bt :: v :: 0x01 :: cv :: n :: rest) =
              some (.checkIn h.toNat (report f q fs bt v) (some { version := cv, entries := es }))
            ∧ es.length = n.toNat
            ∧ ∀ i < n.toNat,
                let b := fun k => rest.getD (10 * i + k) 0
                es[i]? = some
                  { child := (b 0).toNat, relay := (b 1).toNat, heard := (b 2).getLsbD 0, hasVersion := (b 2).getLsbD 1,
                    margin := (b 3).toNat, fire := (b 4).toNat, seq := (b 5).toNat, faults := (b 6).toNat,
                    battery := (b 7).toNat, version := b 8, childVersion := b 9 })
          ∧ (¬ (handle h ∧ f.toNat ≤ 2 ∧ fs.toNat ≤ 15 ∧ n.toNat ≤ 24 ∧ rest.length = 10 * n.toNat) →
              parseBody (0x01 :: h :: f :: q :: fs :: bt :: v :: 0x01 :: cv :: n :: rest) = none))
    ∧ (∀ body : List Byte, parseBody (0x01 :: body) ≠ none →
        body[6]? = some 0x00 ∧ body.length = 7 ∨ body[6]? = some 0x01 ∧ ∃ n ≤ 24, body.length = 9 + 10 * n)
    ∧ (∀ o via f q : Byte, parseBody [0x02, o, via, f, q] =
        if handle o ∧ via.toNat ≤ 160 ∧ f.toNat ≤ 2 then some (.alarm o.toNat via.toNat (fire f) q.toNat) else none)
    ∧ (∀ a b c d e k via : Byte, parseBody [0x03, a, b, c, d, e, k, via] =
        if k.toNat ≤ 2 ∧ via.toNat ≤ 160 then
          some (.join (BitVec.ofNat 40 ((((a.toNat * 256 + b.toNat) * 256 + c.toNat) * 256 + d.toNat) * 256 + e.toNat))
            (if k = 0 then .detector else if k = 1 then .callPoint else .relay) via.toNat)
        else none)
    ∧ (∀ h : Byte, parseBody [0x04, h] = if handle h then some (.leaving h.toNat) else none)
    ∧ (∀ body : List Byte, (∀ k rest, body = k :: rest → k ≠ 0x01 ∧ (k = 0x02 → rest.length ≠ 4)
        ∧ (k = 0x03 → rest.length ≠ 7) ∧ (k = 0x04 → rest.length ≠ 1)) → parseBody body = none)
    ∧ ∀ t : Transmission, ∃ body,
        t.bytes = one (body.length + 4) :: two t.networkId ++ body ++ two (crc16 (two t.networkId ++ body)).toNat
        ∧ body = match t.frame with
          | .beacon b => [0x10, one b.frame, if b.running then 1 else 0, one b.countdown, one b.target,
              if b.commissioning then 1 else 0]
          | .downlink hop dest (.alarmAck q) => [0x21, one hop, one dest, one q]
          | .downlink hop dest (.joinGrant s h a t v) =>
            [0x22, one hop, one dest] ++ serial s ++ [one h] ++ place a ++ settings t v
          | .downlink hop dest .rearm => [0x23, one hop, one dest]
          | .downlink hop dest .retireNotice => [0x24, one hop, one dest]
          | .downlink hop dest (.settings a t v) => [0x25, one hop, one dest] ++ place a ++ settings t v
          | .downlink hop dest (.routeUpdate v ps) =>
            [0x26, one hop, one dest, v, one ps.length] ++ ps.flatMap fun p => one p.1 :: serial p.2
          | .downlink hop dest (.timeCorrection o) => [0x27, one hop, one dest] ++ two (o % 65536).toNat

/-! ### Laws that every step keeps -/

/-- The laws of the blocks hold right after reset. -/
def Obligations.LawsHoldAtReset : Prop :=
  RegistryLegal State.reset ∧ LinksLegal State.reset ∧ MapLegal State.reset ∧ CeilingLegal State.reset
    ∧ QueueLegal State.reset ∧ AttentionLegal State.reset ∧ ControlLegal State.reset ∧ ChannelLegal State.reset
    ∧ CandidatesLegal State.reset ∧ TreeLegal State.reset ∧ ReachLegal State.reset ∧ ZonesLegal State.reset

/-- Every step keeps the tables canonical, the serials distinct and the addresses distinct (R1, R2, R3). -/
def Obligations.RegistryLawKept : Prop :=
  ∀ s t : State, RegistryLegal s → step s = .next t → RegistryLegal t

/-- Every step keeps every link block in the ranges of Table 4-1, and the law of the Zone Table: windows of 8 to 240 frames, a
disabled zone QUIET, a wait within 240 frames (Table 2-3, R50). -/
def Obligations.LinkAndZoneRangesKept : Prop :=
  ∀ s t : State, step s = .next t → (LinksLegal s → LinksLegal t) ∧ (TablesLegal s → ZonesLegal s → ZonesLegal t)

/-- Every step keeps the Lane Occupancy Map free of collisions, and every record's allocations as R62 says (R61, R62). -/
def Obligations.LaneMapLawKept : Prop :=
  ∀ s t : State, MapLegal s → step s = .next t → MapLegal t

/-- Every step keeps P × M ≤ C for every supervised cadence (R58). -/
def Obligations.SupervisionLawKept : Prop :=
  ∀ s t : State, CeilingLegal s → step s = .next t → CeilingLegal t

/-- Every step keeps the Downlink Queue at 24 entries or fewer, no two of one final destination and kind (R138), and the
Attention List with its urgent entries first and each target once (R163). -/
def Obligations.QueueAndAttentionLawsKept : Prop :=
  ∀ s t : State, step s = .next t → (QueueLegal s → QueueLegal t) ∧ (AttentionLegal s → AttentionLegal t)

/-- Every step keeps the law between the network state, the Frame Timer, the port and the Channel Monitor (R54, R151, R152,
R177). -/
def Obligations.ControlLawKept : Prop :=
  ∀ s t : State, ControlLegal s → ChannelLegal s → step s = .next t → ControlLegal t ∧ ChannelLegal t

/-- Every step keeps the Candidate Table's law (Table 6-5, R130). -/
def Obligations.CandidateLawKept : Prop :=
  ∀ s t : State, ControlLegal s → CandidatesLegal s → step s = .next t → CandidatesLegal t

/-! ### Reset and the request exchange -/

/-- After power-on reset and after a pulse of the RESET pin the part stands as R1, R30, R39, R61, R123, R130, R138, R151, R163,
R164, R170, R172, R174 and R176 say, whatever it did before; READY is low and ATTN is high (R173). -/
def Obligations.ResetLeavesTheResetState : Prop :=
  ∀ s : State, ∃ t, exec .powerOnReset s = .next t ∧ exec .resetPulse s = .next t
    ∧ (∀ h, t.rec? h = none) ∧ (∀ z, t.zone? z = none) ∧ t.cursor = none ∧ t.markers = [] ∧ t.held = []
    ∧ t.timer = { frame := 0, phase := .stopped }
    ∧ t.commissioning.window = none ∧ t.commissioning.candidates = []
    ∧ t.commissioning.filterA = { value := 0, length := 0, enabled := false }
    ∧ t.commissioning.filterB = { value := 0, length := 0, enabled := false }
    ∧ t.queue = []
    ∧ t.monitor = { index := 0, history := [], interfered := false, persistence := 0, changeover := none }
    ∧ t.attention.entries = [] ∧ (∀ i < 6, t.attention.enables.getLsbD i = true)
    ∧ t.attention.edges = { fire := .both, zone := .both, link := .both, fault := .both }
    ∧ (∀ f, t.attention.isSet f = (f == .halted)) ∧ (∀ i < 10, t.attention.mask.getLsbD i = true)
    ∧ t.port.state = .idle ∧ t.port.discarded = false ∧ readyLine t = false ∧ attnLine t = true
    ∧ t.network.state = .halted ∧ t.network.formingCount = 0
    ∧ t.network.params =
        { networkId := 1, plan := [0], missLimit := 3, ceiling := 400, floor := 8, hysteresis := 4, threshold := -85,
          agility := false, guard := 1500, snapshotAuto := true }

/-- In WORKING every request write is discarded: no block is reached, the marker is set and nothing else changes. In IDLE and
ANSWER_READY a malformed one is answered MALFORMED at once and changes nothing else, the answer carrying the kind byte where
the frame has one (log 27), and a kind that names no request where the leading byte is not 5A (log 9). -/
def Obligations.RequestWritesDiscardedOrMalformed : Prop :=
  (∀ (i : Instr) (s : State), s.port.state = .working → (requestFields i).isSome = true →
      exec i s = .next (s.setPort { s.port with discarded := true }))
    ∧ (∀ s : State, s.port.state = .working →
        exec .requestDiscarded s = .next (s.setPort { s.port with discarded := true }))
    ∧ (∀ (s : State) (bytes : List Byte), s.port.state = .working → decodeRequest bytes = none →
        exec (.malformedRequest bytes) s = .next (s.setPort { s.port with discarded := true }))
    ∧ ∀ (s : State) (bytes : List Byte), s.port.state ≠ .working → decodeRequest bytes = none →
        ∃ kind, exec (.malformedRequest bytes) s = .next (s.setPort (s.port.answering kind (.refuse .malformed)))
          ∧ (∀ k rest, bytes = 0x5A#8 :: k :: rest → kind = k)
          ∧ ((∀ rest, bytes ≠ 0x5A#8 :: rest) → kind.toNat = 0 ∨ 36 < kind.toNat)

/-- Every request but START is answered at once when it is taken: READY is asserted, the answer carries the request's kind and
the discarded marker as it stands, and what the port clocked out and what is on the air stay; the free choices stay but for a
READ_NETWORK, which may draw one (log 6). A refusal, whose answer is neither OK nor ADJUSTED, leaves all but the port as it
stood (10.2). -/
def Obligations.RequestAnsweredAtOnce : Prop :=
  ∀ (i : Instr) (s : State) (kind : Nat) (fields : List (Option FieldVal)), requestFields i = some (kind, fields) →
    i ≠ .start → s.port.state ≠ .working →
    ∃ t a, exec i s = .next t ∧ t.port.state = .answerReady a ∧ readyLine t = true ∧ a.kind = byte kind
      ∧ a.discarded = t.port.discarded
      ∧ t.port.discarded = (match s.port.state with | .answerReady _ => false | _ => s.port.discarded)
      ∧ t.port.spiOut = s.port.spiOut ∧ t.air = s.air ∧ (i = .readNetwork ∨ t.choices = s.choices) ∧ t.pending = s.pending
      ∧ (a.result ≠ .ok → a.result ≠ .adjusted → t = s.setPort t.port)

/-- An answer read in ANSWER_READY clocks the answer out, with 00 beyond its end, and leaves the port IDLE with the marker
clear; in IDLE and WORKING it clocks the NONE frame out and leaves the port as it stood. -/
def Obligations.AnswerReadClocksTheBuffer : Prop :=
  (∀ (s : State) (a : Answer) (count : Nat), s.port.state = .answerReady a →
      ∃ out, exec (.answerRead count) s = .next (s.setPort { state := .idle, discarded := false, spiOut := out })
        ∧ out.length = count ∧ ∀ i < count, out[i]? = some (a.bytes.getD i 0))
    ∧ ∀ (s : State) (count : Nat), (∀ a, s.port.state ≠ .answerReady a) →
        ∃ out, exec (.answerRead count) s = .next (s.setPort { s.port with spiOut := out })
          ∧ out.length = count ∧ ∀ i < count, out[i]? = some ([0x00#8, 0xFF#8, 0x00#8, 0x00#8, 0x00#8].getD i 0)

/-! ### The registry -/

/-- An ENROL of a direct device that passes every test creates a PENDING record in the lowest VACANT slot with the first-fit
allocation of the clamped cadence, removes the candidate of its serial, and answers OK or ADJUSTED with handle, cadence and
allocation (R7 to R9). Nothing else changes. An ENROL of any parent that fails a test is refused with nothing changed but the
port: a field out of range with the first such position in request order (R6), then the first test of Table 1-6 that fails
(R7, R4). That a parent below two relays fails BAD_PARENT is log 14. -/
def Obligations.EnrolCreatesDirectRecord : Prop :=
  (∀ (s : State) (serial : Serial) (kind zone member sensitivity indicator q h : Nat) (k : Kind) (im : IndicatorMode)
    (a : Alloc), TablesLegal s → s.port.state ≠ .working →
    Kind.ofCode kind = some k → isZone zone = true → isZone member = true → 1 ≤ sensitivity → sensitivity ≤ 4 →
    IndicatorMode.ofCode indicator = some im → (s.zone? zone).isSome = true →
    (∀ e ∈ s.records, e.2.serial ≠ serial) →
    (∀ e ∈ s.records, e.2.isMember = true → e.2.zone = zone → e.2.member ≠ member) →
    isHandle h = true → s.rec? h = none → (∀ g, 1 ≤ g → g < h → s.rec? g ≠ none) →
    let P := clampCadence s.network.params.missLimit s.network.params.ceiling q
    firstFit s.laneEntries P = some a →
    exec (.enrol serial kind zone member 0 sensitivity indicator q) s = .next { s with
      records := Tbl.set s.records h
        { serial := serial, kind := k, zone := zone, member := member, lifecycle := .pending,
          settings := { sensitivity := sensitivity, indicator := im, cadence := P, parent := 0 },
          version := 0, disabled := false, current := some a, next := none,
          link := { state := .unheard, lqf := none, missRun := 0, history := [], live := 0, saturated := false, snap := 0,
                    snapSaturated := false },
          cond := { fire := .none, latched := false, lastSeq := none, faults := 0, battery := none,
                    reportedVersion := none },
          timing := none,
          route := if k = .relay then some { version := 0, reported := none, staleRun := 0 } else none },
      commissioning := { s.commissioning with
        candidates := s.commissioning.candidates.filter fun c => c.serial != serial },
      port := s.port.answering 1
        (if P < q ∨ q = 0 then
          { result := .adjusted, adjusted := [(8, .clamped)], payload := .enrolled h P (some a) }
        else { result := .ok, adjusted := [], payload := .enrolled h P (some a) }) })
    ∧ ∀ (s : State) (serial : Serial) (kind zone member parent sensitivity indicator q : Nat), TablesLegal s →
      s.port.state ≠ .working →
      let refused := fun x : Reply =>
        exec (.enrol serial kind zone member parent sensitivity indicator q) s = .next (s.setPort (s.port.answering 1 x))
      let inRange : List (Nat × Prop) :=
        [(2, kind ≤ 2), (3, 1 ≤ zone ∧ zone ≤ 32), (4, 1 ≤ member ∧ member ≤ 32), (5, parent ≤ 160),
          (6, 1 ≤ sensitivity ∧ sensitivity ≤ 4), (7, indicator ≤ 2)]
      (∀ pre f post, inRange = pre ++ f :: post → (∀ x ∈ pre, x.2) → ¬ f.2 → refused (.refuseAt .outOfRange f.1))
      ∧ ((∀ x ∈ inRange, x.2) →
        let tests : List (ResultCode × Prop) :=
          [(.noSuchZone, s.zone? zone ≠ none),
            (.duplicateSerial, ∀ e ∈ s.records, e.2.serial ≠ serial),
            (.addressTaken, ∀ e ∈ s.records, e.2.isMember = true → e.2.zone = zone → e.2.member ≠ member),
            (.badParent, parent = 0 ∨ ∃ p, s.rec? parent = some p ∧ p.kind = .relay ∧ p.isMember = true
              ∧ (p.settings.parent = 0 ∨ kind ≠ 2 ∧ s.parentOf p.settings.parent = 0)),
            (.routeFull, parent = 0 ∨ (s.children parent).length < 12
              ∧ (s.descendants (if s.parentOf parent = 0 then parent else s.parentOf parent)).length < 24),
            (.full, ∃ h, isHandle h = true ∧ s.rec? h = none),
            (.noCapacity, parent ≠ 0 ∨
              firstFit s.laneEntries (clampCadence s.network.params.missLimit s.network.params.ceiling q) ≠ none)]
        ∀ pre f post, tests = pre ++ f :: post → (∀ x ∈ pre, x.2) → ¬ f.2 → refused (.refuse f.1))

/-- An ENROL of a child of a top relay, or of a second-level relay for a device that is no relay, with room creates a PENDING
record without an allocation, and the parent's child-list version goes one up (R9, R72, R102); no other record changes. -/
def Obligations.EnrolCreatesChild : Prop :=
  ∀ (s : State) (serial : Serial) (kind zone member p sensitivity indicator q h : Nat) (k : Kind) (im : IndicatorMode)
    (relay : Record), TablesLegal s → s.port.state ≠ .working →
    Kind.ofCode kind = some k → isZone zone = true → isZone member = true → 1 ≤ sensitivity → sensitivity ≤ 4 →
    IndicatorMode.ofCode indicator = some im → (s.zone? zone).isSome = true →
    (∀ e ∈ s.records, e.2.serial ≠ serial) →
    (∀ e ∈ s.records, e.2.isMember = true → e.2.zone = zone → e.2.member ≠ member) →
    isHandle h = true → s.rec? h = none → (∀ g, 1 ≤ g → g < h → s.rec? g ≠ none) →
    s.rec? p = some relay → relay.kind = .relay → relay.isMember = true →
    (relay.settings.parent = 0 ∨ k ≠ .relay ∧ s.parentOf relay.settings.parent = 0) → (s.children p).length < 12 →
    (s.descendants (if relay.settings.parent = 0 then p else relay.settings.parent)).length < 24 →
    let P := clampCadence s.network.params.missLimit s.network.params.ceiling q
    ∃ t, exec (.enrol serial kind zone member p sensitivity indicator q) s = .next t
      ∧ t.rec? h = some
          { serial := serial, kind := k, zone := zone, member := member, lifecycle := .pending,
            settings := { sensitivity := sensitivity, indicator := im, cadence := P, parent := p },
            version := 0, disabled := false, current := none, next := none,
            link := { state := .unheard, lqf := none, missRun := 0, history := [], live := 0, saturated := false, snap := 0,
                      snapSaturated := false },
            cond := { fire := .none, latched := false, lastSeq := none, faults := 0, battery := none,
                      reportedVersion := none },
            timing := none,
            route := if k = .relay then some { version := 0, reported := none, staleRun := 0 } else none }
      ∧ t.rec? p = some { relay with route := relay.route.map fun x => { x with version := x.version + 1 } }
      ∧ (∀ g, g ≠ h → g ≠ p → t.rec? g = s.rec? g)
      ∧ t = { s with
          records := t.records,
          commissioning := { s.commissioning with
            candidates := s.commissioning.candidates.filter fun c => c.serial != serial },
          port := s.port.answering 1
            (if P < q ∨ q = 0 then
              { result := .adjusted, adjusted := [(8, .clamped)], payload := .enrolled h P none }
            else { result := .ok, adjusted := [], payload := .enrolled h P none }) }

/-- A RESTORE in HALTED of a record that passes every test, direct or the child of a relay, creates it ACTIVE with the values
given, UNHEARD, or UNREACHABLE with a LINK onset below a relay that is LOST or UNREACHABLE (R10 to R12, R89, R113). Every other
RESTORE is refused with nothing changed but the port: outside HALTED with WRONG_STATE before its fields are looked at, without a
position (log 18); else a field out of range with the first such position in request order (R10), then the first test of Table
1-7 that fails (R11, R4). That LIMIT_VIOLATION carries the request's own handle is log 35, that a parent below two relays fails
BAD_PARENT is log 14. Whether the cadence of a child that is no relay is put to that test too is one free choice, the same for
every RESTORE: R10 and R57 say so, Table 1-7 and R58 do not (log 40). -/
def Obligations.RestoreCreatesRecord : Prop :=
  ∃ boundsAll : Bool, (∀ (s : State) (h : Nat) (serial : Serial)
    (kind zone member parent sensitivity indicator P lane phase version disabled cv : Nat)
    (k : Kind) (im : IndicatorMode) (d down : Bool), TablesLegal s → s.port.state ≠ .working → s.network.state = .halted →
    isHandle h = true → Kind.ofCode kind = some k → isZone zone = true → isZone member = true → 1 ≤ sensitivity →
    sensitivity ≤ 4 → IndicatorMode.ofCode indicator = some im → P ∈ cadences →
    yesNo disabled = some d → s.rec? h = none → (s.zone? zone).isSome = true →
    (∀ e ∈ s.records, e.2.serial ≠ serial) →
    (∀ e ∈ s.records, e.2.isMember = true → e.2.zone = zone → e.2.member ≠ member) →
    (parent = 0 ∧ isLane lane = true ∧ phase < P ∧ down = false
      ∨ lane = 0 ∧ ∃ relay, s.rec? parent = some relay ∧ relay.kind = .relay ∧ relay.isMember = true
        ∧ (s.children parent).length < 12
        ∧ (relay.settings.parent = 0 ∧ down = relay.link.state.isDown ∧ (s.descendants parent).length < 24
          ∨ k ≠ .relay ∧ ∃ top, s.rec? relay.settings.parent = some top ∧ top.settings.parent = 0
            ∧ down = (relay.link.state.isDown || top.link.state.isDown)
            ∧ (s.descendants relay.settings.parent).length < 24)) →
    (down = true → s.children h = []) →
    ((parent = 0 ∨ k = .relay ∨ boundsAll = true → P * s.network.params.missLimit ≤ s.network.params.ceiling) →
      (parent = 0 → ∀ e ∈ s.laneEntries, e.alloc.collides { lane := lane, cadence := P, phase := phase } = false) →
      exec (.restore h serial kind zone member parent sensitivity indicator P lane phase version disabled cv) s = .next { s with
        records := Tbl.set s.records h
          { serial := serial, kind := k, zone := zone, member := member, lifecycle := .active,
            settings := { sensitivity := sensitivity, indicator := im, cadence := P, parent := parent },
            version := BitVec.ofNat 8 version, disabled := d,
            current := if parent = 0 then some { lane := lane, cadence := P, phase := phase } else none, next := none,
            link := { state := if down then .unreachable else .unheard, lqf := none, missRun := 0, history := [], live := 0,
                      saturated := false, snap := 0, snapSaturated := false },
            cond := { fire := .none, latched := false, lastSeq := none, faults := 0, battery := none,
                      reportedVersion := none },
            timing := none,
            route :=
              if k = .relay then some { version := BitVec.ofNat 8 cv, reported := none, staleRun := 0 } else none },
        attention := if down then s.attention.post (.record h) .linkOnset false else s.attention,
        queue := if down then s.queue.filter fun e => e.dest != h else s.queue,
        port := s.port.answering 4 { result := .ok, adjusted := [], payload := .none } })
    ∧ ((parent = 0 ∨ k = .relay ∨ boundsAll = true) → s.network.params.ceiling < P * s.network.params.missLimit →
        exec (.restore h serial kind zone member parent sensitivity indicator P lane phase version disabled cv) s =
          .next (s.setPort (s.port.answering 4 { result := .limitViolation, adjusted := [], payload := .offender h }))))
    ∧ ∀ (s : State) (h : Nat) (serial : Serial)
        (kind zone member parent sensitivity indicator P lane phase version disabled cv : Nat), TablesLegal s →
      s.port.state ≠ .working →
      let refused := fun x : Reply =>
        exec (.restore h serial kind zone member parent sensitivity indicator P lane phase version disabled cv) s =
          .next (s.setPort (s.port.answering 4 x))
      let inRange : List (Nat × Prop) :=
        [(1, 1 ≤ h ∧ h ≤ 160), (3, kind ≤ 2), (4, 1 ≤ zone ∧ zone ≤ 32), (5, 1 ≤ member ∧ member ≤ 32), (6, parent ≤ 160),
          (7, 1 ≤ sensitivity ∧ sensitivity ≤ 4), (8, indicator ≤ 2), (9, P ∈ [1, 2, 4, 8, 16, 32, 64, 128]),
          (10, lane ≤ 14 ∧ (lane = 0 ↔ parent ≠ 0)), (11, lane = 0 ∨ phase < P), (13, disabled ≤ 1)]
      (s.network.state ≠ .halted → refused (.refuse .wrongState))
      ∧ (s.network.state = .halted →
        (∀ pre f post, inRange = pre ++ f :: post → (∀ x ∈ pre, x.2) → ¬ f.2 → refused (.refuseAt .outOfRange f.1))
        ∧ ((∀ x ∈ inRange, x.2) →
          let tests : List (Reply × Prop) :=
            [(.refuse .handleTaken, s.rec? h = none),
              (.refuse .noSuchZone, s.zone? zone ≠ none),
              (.refuse .duplicateSerial, ∀ e ∈ s.records, e.2.serial ≠ serial),
              (.refuse .addressTaken, ∀ e ∈ s.records, e.2.isMember = true → e.2.zone = zone → e.2.member ≠ member),
              (.refuse .badParent, parent = 0 ∨ ∃ p, s.rec? parent = some p ∧ p.kind = .relay ∧ p.isMember = true
                ∧ (p.settings.parent = 0 ∨ kind ≠ 2 ∧ s.parentOf p.settings.parent = 0)),
              (.refuse .routeFull, parent = 0 ∨ (s.children parent).length < 12
                ∧ (s.descendants (if s.parentOf parent = 0 then parent else s.parentOf parent)).length < 24),
              ({ result := .limitViolation, adjusted := [], payload := .offender h },
                parent = 0 ∨ kind = 2 ∨ boundsAll = true → P * s.network.params.missLimit ≤ s.network.params.ceiling),
              (.refuse .slotConflict, parent = 0 →
                ∀ e ∈ s.laneEntries, e.alloc.collides { lane := lane, cadence := P, phase := phase } = false)]
          ∀ pre f post, tests = pre ++ f :: post → (∀ x ∈ pre, x.2) → ¬ f.2 → refused f.1))

/-- An AMEND of the sensitivity class and the indicator mode of a PENDING or ACTIVE record stores them, raises the settings
version by one when either differs, and answers the number of fields changed and the version (R15, R16). An AMEND of the address
or of the disabled flag stores it and leaves the settings version; no other record changes (R19, R51). A record that is
re-enabled while it reports ALARM is offered to its zone as an alarm onset (what it makes of the zone:
ZoneWindowAndOnsetDecisions); one that reports PREALARM puts a QUIET zone into PREALARM with a ZONE onset; a disabled zone is
offered nothing (R51). A record that is disabled, or leaves its address, has its zone's prealarm test run (R44, R48; within one
zone: log 25). An AMEND that fails a test of R13 is refused with nothing changed but the port: the first test that fails, in the
order of R13, gives code and position (R4, R13, R14, R17, R18; R4's limit of two relays: log 14). -/
def Obligations.AmendAppliesFields : Prop :=
  (∀ (s : State) (h sensitivity indicator : Nat) (im : IndicatorMode) (r : Record), s.port.state ≠ .working →
      isHandle h = true → s.rec? h = some r → r.isMember = true → r.AllocLegal → 1 ≤ sensitivity → sensitivity ≤ 4 →
      IndicatorMode.ofCode indicator = some im →
      let changes := (if sensitivity = r.settings.sensitivity then 0 else 1) + (if im = r.settings.indicator then 0 else 1)
      let version := if changes = 0 then r.version else r.version + 1
      exec (.amend h none none none (some sensitivity) (some indicator) none none) s = .next { s with
        records := Tbl.set s.records h
          { r with settings := { r.settings with sensitivity := sensitivity, indicator := im }, version := version },
        port := s.port.answering 2 { result := .ok, adjusted := [], payload := .amended changes version } })
    ∧ (∀ (s : State) (h zone member : Nat) (r : Record), s.port.state ≠ .working →
        isHandle h = true → s.rec? h = some r → r.isMember = true → r.AllocLegal → isZone zone = true →
        isZone member = true → (s.zone? zone).isSome = true →
        (∀ e ∈ s.records, e.1 ≠ h → e.2.isMember = true → e.2.zone = zone → e.2.member ≠ member) →
        ∃ t, exec (.amend h (some zone) (some member) none none none none none) s = .next t
          ∧ t.rec? h = some { r with zone := zone, member := member } ∧ (∀ g, g ≠ h → t.rec? g = s.rec? g)
          ∧ (let moved := { s with records := Tbl.set s.records h { r with zone := zone, member := member } }
            zone ≠ r.zone ∨ member ≠ r.member →
              t.zones = (moved.prealarmTest r.zone).zones ∧ t.attention = (moved.prealarmTest r.zone).attention)
          ∧ (zone = r.zone → member = r.member → t.zones = s.zones ∧ t.attention = s.attention)
          ∧ (∀ z, z ≠ r.zone → t.zone? z = s.zone? z)
          ∧ t = { s with
              records := t.records, zones := t.zones, attention := t.attention,
              port := s.port.answering 2
                { result := .ok, adjusted := [],
                  payload := .amended ((if zone = r.zone then 0 else 1) + if member = r.member then 0 else 1)
                    r.version } })
    ∧ (∀ (s : State) (h code : Nat) (d : Bool) (r : Record), s.port.state ≠ .working →
        isHandle h = true → s.rec? h = some r → r.isMember = true → r.AllocLegal → yesNo code = some d →
        (d = true ∨ r.disabled = false ∨ r.cond.fire = .none) →
        ∃ t, exec (.amend h none none (some code) none none none none) s = .next t
          ∧ t.rec? h = some { r with disabled := d } ∧ (∀ g, g ≠ h → t.rec? g = s.rec? g)
          ∧ (∀ z, z ≠ r.zone → t.zone? z = s.zone? z)
          ∧ t = { s with
              records := t.records, zones := t.zones, attention := t.attention,
              port := s.port.answering 2
                { result := .ok, adjusted := [], payload := .amended (if d = r.disabled then 0 else 1) r.version } })
    ∧ (∀ (s : State) (h : Nat) (r : Record), s.port.state ≠ .working → isHandle h = true → s.rec? h = some r →
        r.isMember = true → r.AllocLegal → r.disabled = false →
        exec (.amend h none none (some 1) none none none none) s = .next
          ((State.prealarmTest { s with records := Tbl.set s.records h { r with disabled := true } } r.zone).setPort
            (s.port.answering 2 { result := .ok, adjusted := [], payload := .amended 1 r.version })))
    ∧ (∀ (s : State) (h : Nat) (r : Record), s.port.state ≠ .working → isHandle h = true → s.rec? h = some r →
        r.isMember = true → r.AllocLegal → r.disabled = true →
        let enabled := { s with records := Tbl.set s.records h { r with disabled := false } }
        let answered := s.port.answering 2 { result := .ok, adjusted := [], payload := .amended 1 r.version }
        ((r.cond.fire = .none ∨ s.zone? r.zone = none ∨ (∃ zn, s.zone? r.zone = some zn ∧ zn.disabled = true)) →
          exec (.amend h none none (some 0) none none none none) s = .next (enabled.setPort answered))
        ∧ ∀ zn, s.zone? r.zone = some zn → zn.disabled = false →
            (r.cond.fire = .alarm → exec (.amend h none none (some 0) none none none none) s =
              .next ((enabled.offerAlarm r.zone h r.kind).setPort answered))
            ∧ (r.cond.fire = .prealarm → zn.state = .quiet → exec (.amend h none none (some 0) none none none none) s =
              .next { enabled with
                zones := Tbl.set s.zones r.zone { zn with state := .prealarm },
                attention := s.attention.post (.zone r.zone) .zoneOnset true,
                port := answered })
            ∧ (r.cond.fire = .prealarm → zn.state ≠ .quiet → exec (.amend h none none (some 0) none none none none) s =
              .next (enabled.setPort answered)))
    ∧ ∀ (s : State) (h : Nat) (zone member disabled sensitivity indicator cadence parent : Option Nat),
      s.port.state ≠ .working →
      let refused := fun (c : ResultCode) (position : Nat) =>
        exec (.amend h zone member disabled sensitivity indicator cadence parent) s =
          .next (s.setPort (s.port.answering 2 (.refuseAt c position)))
      (¬ (1 ≤ h ∧ h ≤ 160) → refused .outOfRange 1)
      ∧ (isHandle h = true → s.rec? h = none → refused .noSuchRecord 1)
      ∧ ∀ r, isHandle h = true → s.rec? h = some r →
        (r.isRetiring = true → refused .wrongState 1)
        ∧ (r.isMember = true → r.AllocLegal →
          let p := parent.getD r.settings.parent
          let granted := fun q => clampCadence s.network.params.missLimit s.network.params.ceiling q
          let P := (cadence.map granted).getD r.settings.cadence
          let free := fun (role : Role) => s.laneEntries.filter fun e => !(e.owner == h && e.role == role)
          let tests : List (ResultCode × Nat × Prop) :=
            [(.outOfRange, 2, ∀ v, zone = some v → 1 ≤ v ∧ v ≤ 32),
              (.noSuchZone, 2, ∀ v, zone = some v → s.zone? v ≠ none),
              (.outOfRange, 3, ∀ v, member = some v → 1 ≤ v ∧ v ≤ 32),
              (.addressTaken, if member = none then 2 else 3, zone = none ∧ member = none
                ∨ ∀ e ∈ s.records, e.1 ≠ h → e.2.isMember = true → e.2.zone = zone.getD r.zone →
                    e.2.member ≠ member.getD r.member),
              (.outOfRange, 4, ∀ v, disabled = some v → v ≤ 1),
              (.outOfRange, 5, ∀ v, sensitivity = some v → 1 ≤ v ∧ v ≤ 4),
              (.outOfRange, 6, ∀ v, indicator = some v → v ≤ 2),
              (.outOfRange, 8, ∀ v, parent = some v → v ≤ 160),
              (.badParent, 8, p = r.settings.parent ∨ p = 0
                ∨ p ≠ h ∧ p ∉ s.descendants h ∧ ∃ q, s.rec? p = some q ∧ q.kind = .relay ∧ q.isMember = true
                  ∧ (q.settings.parent = 0 ∧ (∀ c ∈ s.children h, s.children c = [])
                    ∨ r.kind ≠ .relay ∧ s.parentOf q.settings.parent = 0 ∧ s.children h = [])),
              (.routeFull, 8, p = r.settings.parent ∨ p = 0 ∨ ((s.children p).filter fun c => c != h).length < 12
                ∧ ((s.descendants (if s.parentOf p = 0 then p else s.parentOf p)).filter fun g =>
                      g != h && !(s.descendants h).contains g).length + 1 + (s.descendants h).length ≤ 24),
              (.noCapacity, if cadence = none then 8 else 7,
                p ≠ 0
                ∨ r.settings.parent ≠ 0 ∧ firstFit s.laneEntries (granted P) ≠ none
                ∨ r.settings.parent = 0 ∧ (P = r.settings.cadence
                  ∨ r.isPending = true ∧ firstFit (free .current) P ≠ none
                  ∨ r.isActive = true ∧ r.next = none ∧ firstFit s.laneEntries P ≠ none
                  ∨ r.isActive = true ∧ r.next ≠ none
                    ∧ (r.current.map Alloc.cadence = some P ∨ firstFit (free .next) P ≠ none)))]
          ∀ pre f post, tests = pre ++ f :: post → (∀ x ∈ pre, x.2.2) → ¬ f.2.2 → refused f.1 f.2.1)

/-- A changed cadence P (R16, R17). ACTIVE and direct: the first fit of P becomes the next allocation and the current one stays;
with a move pending, P equal to the current cadence cancels the move, and another P replaces the next allocation, which is
treated as free. PENDING and direct: the first fit of P, the current allocation treated as free, becomes current. A child's
settings cadence alone changes. The settings version goes one up when an allocation changes. A changed parent, alone or with a
changed cadence (R16, R18, R102). From 0 or a relay to a relay, top or second-level: the allocations are released, the timing
fields of a direct record removed, the record's version, the new relay's child-list version and that of the relay it leaves one
up. Where the new chain holds a relay that is LOST or UNREACHABLE, the record and its children become UNREACHABLE with a LINK
onset and their messages purged, and a RETIRING child goes with an ACTIVE record; where it is now whole they return to UNHEARD
(R91, R111, R112); that the ACTIVE children of a PENDING record are so tested is log 15. From a relay to 0: the settings cadence
bounded by the clamp, its first fit becomes current, and the record and its children return to supervision where their chain is
now whole (R91). -/
def Obligations.AmendChangesCadenceAndParent : Prop :=
  let answered := fun (s : State) (clamped : Bool) (n : Nat) (version : Version) =>
    s.port.answering 2
      (if clamped then { result := .adjusted, adjusted := [(7, .clamped)], payload := .amended n version }
      else { result := .ok, adjusted := [], payload := .amended n version })
  let granted := fun (s : State) (q : Nat) => clampCadence s.network.params.missLimit s.network.params.ceiling q
  let after := fun (s : State) (h q : Nat) (r : Record) (current next : Option Alloc) =>
    let version := if current = r.current ∧ next = r.next then r.version else r.version + 1
    { s with
      records := Tbl.set s.records h
        { r with
          settings := { r.settings with cadence := granted s q }, version := version, current := current, next := next },
      port := answered s (decide (granted s q < q ∨ q = 0)) 1 version }
  let entriesBut := fun (s : State) (h : Nat) (role : Role) => s.laneEntries.filter fun e => !(e.owner == h && e.role == role)
  (∀ (s : State) (h q : Nat) (r : Record), s.port.state ≠ .working → isHandle h = true → s.rec? h = some r →
      r.AllocLegal → granted s q ≠ r.settings.cadence →
      (∀ a, r.isActive = true → r.settings.parent = 0 → r.next = none → firstFit s.laneEntries (granted s q) = some a →
        exec (.amend h none none none none none (some q) none) s = .next (after s h q r r.current (some a)))
      ∧ (∀ a b, r.isActive = true → r.settings.parent = 0 → r.current = some a → r.next = some b →
          granted s q = a.cadence →
          exec (.amend h none none none none none (some q) none) s = .next (after s h q r (some a) none))
      ∧ (∀ a b c, r.isActive = true → r.settings.parent = 0 → r.current = some a → r.next = some b →
          granted s q ≠ a.cadence → firstFit (entriesBut s h .next) (granted s q) = some c →
          exec (.amend h none none none none none (some q) none) s = .next (after s h q r (some a) (some c)))
      ∧ (∀ a, r.isPending = true → r.settings.parent = 0 → firstFit (entriesBut s h .current) (granted s q) = some a →
          exec (.amend h none none none none none (some q) none) s = .next (after s h q r (some a) r.next))
      ∧ (r.isMember = true → r.settings.parent ≠ 0 →
          exec (.amend h none none none none none (some q) none) s = .next (after s h q r none none)))
    ∧ (∀ (s : State) (h p : Nat) (r relay : Record), TablesLegal s → s.port.state ≠ .working → s.rec? h = some r →
        r.isMember = true → r.settings.parent = 0 → r.link.state ≠ .unreachable →
        s.children h = [] → s.rec? p = some relay → p ≠ h → relay.kind = .relay → relay.isMember = true →
        relay.settings.parent = 0 → relay.link.state.isDown = false → (s.children p).length < 12 →
        (s.descendants p).length < 24 →
        ∃ t, exec (.amend h none none none none none none (some p)) s = .next t
          ∧ t.rec? h = some { r with
              settings := { r.settings with parent := p }, version := r.version + 1, current := none, next := none,
              timing := none }
          ∧ t.rec? p = some { relay with route := relay.route.map fun x => { x with version := x.version + 1 } }
          ∧ (∀ g, g ≠ h → g ≠ p → t.rec? g = s.rec? g)
          ∧ t = { s with
              records := t.records,
              port := s.port.answering 2 { result := .ok, adjusted := [], payload := .amended 1 (r.version + 1) } })
    ∧ (∀ (s : State) (h p : Nat) (cq : Option Nat) (r relay : Record), TreeLegal s → ReachLegal s →
        s.port.state ≠ .working → s.rec? h = some r → r.isMember = true → p ≠ r.settings.parent →
        s.rec? p = some relay → p ≠ h → p ∉ s.descendants h → relay.kind = .relay → relay.isMember = true →
        (relay.settings.parent = 0 ∧ (∀ c ∈ s.children h, s.children c = []) 
          ∨ r.kind ≠ .relay ∧ s.parentOf relay.settings.parent = 0 ∧ s.children h = []) →
        ((s.children p).filter fun c => c != h).length < 12 →
        ((s.descendants (if relay.settings.parent = 0 then p else relay.settings.parent)).filter fun g =>
          g != h && !(s.descendants h).contains g).length + 1 + (s.descendants h).length ≤ 24 →
        let broken := relay.link.state.isDown || (s.rec? relay.settings.parent).any fun top => top.link.state.isDown
        let reach := fun (cut : Bool) (q : Record) =>
          if q.isActive = true ∧ cut = true then { q with link := { q.link with state := .unreachable } }
          else if q.isActive = true ∧ q.link.state = .unreachable then
            { q with link := { q.link with state := .unheard, missRun := 0 } }
          else q
        let bumped := fun q : Record => { q with route := q.route.map fun x => { x with version := x.version + 1 } }
        let cadence := (cq.map (granted s)).getD r.settings.cadence
        let goes := fun g : Nat => broken && (s.rec? g).any fun q =>
          (g == h || q.settings.parent == h) && !q.isPending && q.link.state != .unreachable && (q.isActive || r.isActive)
        ∃ t, exec (.amend h none none none none none cq (some p)) s = .next t
          ∧ t.rec? h = some { reach broken r with
              settings := { r.settings with parent := p, cadence := cadence }, version := r.version + 1, current := none,
              next := none, timing := if r.settings.parent = 0 then none else r.timing }
          ∧ t.rec? p = some (bumped relay)
          ∧ (∀ old, s.rec? r.settings.parent = some old → t.rec? r.settings.parent = some (bumped old))
          ∧ (∀ g q, s.rec? g = some q → q.settings.parent = h →
              t.rec? g = if q.isRetiring = true ∧ r.isActive = true ∧ broken = true then none
                else some (reach (broken || decide (r.link.state = .lost)) q))
          ∧ (∀ g, g ≠ h → g ≠ p → g ≠ r.settings.parent → (∀ q, s.rec? g = some q → q.settings.parent ≠ h) →
              t.rec? g = s.rec? g)
          ∧ t.queue = (s.queue.filter fun e => !goes e.dest)
          ∧ (s.attention.keeps .linkOnset = true → ∀ g, goes g = true →
              ∃ e ∈ t.attention.entries, e.target = .record g ∧ e.marks.getLsbD 4 = true)
          ∧ (broken = false → t.zones = s.zones ∧ t.held = s.held ∧ t.attention = s.attention)
          ∧ t = { s with
              records := t.records, zones := t.zones, held := t.held, queue := t.queue, attention := t.attention,
              port := answered s (cq.any fun q => decide (granted s q < q ∨ q = 0))
                (if cadence = r.settings.cadence then 1 else 2) (r.version + 1) })
    ∧ ∀ (s : State) (h : Nat) (cq : Option Nat) (r relay : Record) (a : Alloc), TreeLegal s → ReachLegal s → s.port.state ≠ .working →
        s.rec? h = some r → r.isMember = true → r.AllocLegal → s.rec? r.settings.parent = some relay →
        r.settings.parent ≠ 0 →
        let P := granted s (cq.getD r.settings.cadence)
        firstFit s.laneEntries P = some a →
        let back := fun q : Record =>
          if q.isActive = true ∧ q.link.state = .unreachable then
            { q with link := { q.link with state := .unheard, missRun := 0 } }
          else q
        ∃ t, exec (.amend h none none none none none cq (some 0)) s = .next t
          ∧ t.rec? h = some { back r with
              settings := { r.settings with parent := 0, cadence := P }, version := r.version + 1, current := some a,
              next := none }
          ∧ t.rec? r.settings.parent = some { relay with
              route := relay.route.map fun x => { x with version := x.version + 1 } }
          ∧ (∀ g q, s.rec? g = some q → q.settings.parent = h →
              t.rec? g = some (if r.link.state = .lost then q else back q))
          ∧ (∀ g, g ≠ h → g ≠ r.settings.parent → (∀ q, s.rec? g = some q → q.settings.parent ≠ h) →
              t.rec? g = s.rec? g)
          ∧ t = { s with
              records := t.records,
              port := match cq with
                | none => answered s (decide (P < r.settings.cadence)) 1 (r.version + 1)
                | some q =>
                  answered s (decide (P < q ∨ q = 0)) (if P = r.settings.cadence then 1 else 2) (r.version + 1) }

/-- A RETIRE of an ACTIVE record that is not LOST or UNREACHABLE puts it into RETIRING with a grace of three times its effective
period, the cadence of the current allocation of itself or of the top relay of its chain (R5), takes it out of its zone's
members, whose prealarm test is run (R44, R48), and its relay's child list, and requests a RETIRE_NOTICE, which a child gets
where its path admits one and the queue takes (R20, R21, R139 to R142). -/
def Obligations.RetireEntersRetiring : Prop :=
  ∀ (s : State) (h top : Nat) (r x : Record) (a : Alloc), TablesLegal s → s.port.state ≠ .working → isHandle h = true →
    s.rec? h = some r → r.isActive = true → r.link.state.isDown = false → r.settings.parent ≠ h →
    (r.kind = .relay → s.children h = []) →
    top = (if r.settings.parent = 0 then h
      else if s.parentOf r.settings.parent = 0 then r.settings.parent else s.parentOf r.settings.parent) →
    s.rec? top = some x → x.current = some a →
    ∃ t, exec (.retire h) s = .next t
      ∧ t.rec? h = some { r with lifecycle := .retiring (3 * a.cadence) }
      ∧ t.rec? r.settings.parent = (s.rec? r.settings.parent).map (fun p =>
          { p with route := p.route.map fun x => { x with version := x.version + 1 } })
      ∧ (∀ g, g ≠ h → g ≠ r.settings.parent → t.rec? g = s.rec? g)
      ∧ (∀ z m, (h, m) ∉ t.members z) ∧ (∀ z, z ≠ r.zone → t.zone? z = s.zone? z)
      ∧ (let left := { s with records := Tbl.set s.records h { r with lifecycle := .retiring (3 * a.cadence) } }
        let request := insertRequest s.queue { dest := h, msg := .retireNotice }
        t.zones = (left.prealarmTest r.zone).zones
          ∧ t.queue = (if s.admits h .retireNotice then request.1 else s.queue)
          ∧ t.attention =
              if s.admits h .retireNotice && request.2 then (left.prealarmTest r.zone).attention.raise .queueOverflow
              else (left.prealarmTest r.zone).attention)
      ∧ (r.settings.parent = 0 ∨ s.admits h .retireNotice = true → s.queue.length < 24 →
          ({ dest := h, msg := .retireNotice } : QueueEntry) ∈ t.queue)
      ∧ t = { s with
          records := t.records, zones := t.zones, queue := t.queue, attention := t.attention,
          port := s.port.answering 3
            { result := .ok, adjusted := [], payload := .retired (some (.retiring (3 * a.cadence))) } }

/-- RETIRE of a PENDING record, RETIRE of an ACTIVE record that is LOST or UNREACHABLE, and the expiry of a retire grace vacate
the record (R20, R23, R25). RETIRE of a handle out of range, of a VACANT slot and of a relay with children, RETIRING ones
included, is refused, and RETIRE of a RETIRING record is answered OK with its grace going on: nothing but the port changes
(R20). What vacating makes of the record's zone, of a zone it is the first knocker of (log 16) and of a frame held from it, the
structure Vacated says (R25, R44, R48). -/
def Obligations.RetireAndGraceExpiryVacate : Prop :=
  (∀ (s : State) (h : Nat) (r : Record), TablesLegal s → s.port.state ≠ .working → isHandle h = true →
      s.rec? h = some r → (r.isPending = true ∨ r.isActive = true ∧ r.link.state.isDown = true) →
      (r.kind = .relay → s.children h = []) →
      ∃ t, exec (.retire h) s = .next t ∧ Vacated h r s t
        ∧ t.port = s.port.answering 3 { result := .ok, adjusted := [], payload := .retired none })
    ∧ (∀ (s : State) (h : Nat), s.port.state ≠ .working →
        let answered := fun x : Reply => exec (.retire h) s = .next (s.setPort (s.port.answering 3 x))
        (¬ (1 ≤ h ∧ h ≤ 160) → answered (.refuseAt .outOfRange 1))
        ∧ (isHandle h = true → s.rec? h = none → answered (.refuse .noSuchRecord))
        ∧ ∀ r, isHandle h = true → s.rec? h = some r →
          (r.kind = .relay → (∃ e ∈ s.records, e.2.settings.parent = h) → answered (.refuse .hasChildren))
          ∧ ∀ g, r.lifecycle = .retiring g → (r.kind = .relay → ∀ e ∈ s.records, e.2.settings.parent ≠ h) →
            answered { result := .ok, adjusted := [], payload := .retired (some (.retiring g)) })
    ∧ ∀ (s : State) (h : Nat) (r : Record), TablesLegal s → s.rec? h = some r → r.lifecycle = .retiring 0 →
        ∃ t, exec (.retireGraceExpiry h) s = .next t ∧ Vacated h r s t ∧ t.port = s.port

/-- READ_RECORD: refused for a handle that is no handle or a VACANT slot; otherwise it answers the record with, for a relay, its
PENDING and ACTIVE children in ascending handle order. FIND_SERIAL: it answers the record that holds the serial, or
NO_SUCH_RECORD. Neither changes anything else (R26, R27). -/
def Obligations.RecordLookupsAnswer : Prop :=
  (∀ (s : State) (h : Nat), s.port.state ≠ .working → isHandle h = false →
      exec (.readRecord h) s = .next (s.setPort (s.port.answering 5 (.refuseAt .outOfRange 1))))
    ∧ (∀ (s : State) (h : Nat), s.port.state ≠ .working → isHandle h = true → s.rec? h = none →
        exec (.readRecord h) s = .next (s.setPort (s.port.answering 5 (.refuse .noSuchRecord))))
    ∧ (∀ (s : State) (h : Nat) (r : Record), TablesLegal s → s.port.state ≠ .working → s.rec? h = some r →
        ∃ kids, exec (.readRecord h) s = .next (s.setPort (s.port.answering 5 (.ok (.record h r kids))))
          ∧ kids.Pairwise (· < ·)
          ∧ ∀ g, g ∈ kids ↔
              r.kind = .relay ∧ ∃ q, s.rec? g = some q ∧ q.settings.parent = h ∧ q.isMember = true)
    ∧ (∀ (s : State) (h : Nat) (r : Record), RegistryLegal s → s.port.state ≠ .working → s.rec? h = some r →
        exec (.findSerial r.serial) s =
          .next (s.setPort (s.port.answering 6 (.ok (.found h r.lifecycle r.kind r.zone r.member)))))
    ∧ ∀ (s : State) (serial : Serial), s.port.state ≠ .working → (∀ e ∈ s.records, e.2.serial ≠ serial) →
        exec (.findSerial serial) s = .next (s.setPort (s.port.answering 6 (.refuse .noSuchRecord)))

/-- OPEN_ZONE_PAGE opens the cursor on a defined zone before its first member and answers the number of members; READ_NEXT with
an open cursor answers the member of the smallest number above the cursor and moves there, END when there is none, and with the
cursor closed NO_CURSOR (R28, R29). -/
def Obligations.ZonePageWalksMembers : Prop :=
  (∀ (s : State) (z : Nat), s.port.state ≠ .working → isZone z = false →
      exec (.openZonePage z) s = .next (s.setPort (s.port.answering 7 (.refuseAt .outOfRange 1))))
    ∧ (∀ (s : State) (z : Nat), s.port.state ≠ .working → isZone z = true → s.zone? z = none →
        exec (.openZonePage z) s = .next (s.setPort (s.port.answering 7 (.refuse .noSuchZone))))
    ∧ (∀ (s : State) (z : Nat), s.port.state ≠ .working → isZone z = true → (s.zone? z).isSome = true →
        exec (.openZonePage z) s = .next { s with
          cursor := some (z, 0),
          port := s.port.answering 7
            (.ok (.members (s.records.filter fun e => e.2.isMember && e.2.zone == z).length)) })
    ∧ (∀ s : State, s.port.state ≠ .working → s.cursor = none →
        exec .readNext s = .next (s.setPort (s.port.answering 8 (.refuse .noCursor))))
    ∧ (∀ (s : State) (z last : Nat), s.port.state ≠ .working → s.cursor = some (z, last) →
        (∀ e ∈ s.records, e.2.isMember = true → e.2.zone = z → e.2.member ≤ last) →
        exec .readNext s = .next (s.setPort (s.port.answering 8 (.refuse .endOfPage))))
    ∧ ∀ (s : State) (z last h : Nat) (r : Record), TablesLegal s → s.port.state ≠ .working → s.cursor = some (z, last) →
        s.rec? h = some r → r.isMember = true → r.zone = z → last < r.member →
        (∀ g q, s.rec? g = some q → q.isMember = true → q.zone = z → last < q.member → g = h ∨ r.member < q.member) →
        exec .readNext s = .next { s with
          cursor := some (z, r.member),
          port := s.port.answering 8
            (.ok (.zoneSummary h r.member r.kind r.lifecycle r.link.state r.cond.latched r.cond.fire r.cond.faults
              r.disabled)) }

/-! ### Zones and the relay tree -/

/-- DEFINE_ZONE of an undefined zone with its fields in range defines it QUIET, with the window given, held at 60 when below 8
and clamped to 240 when above, and answers the window in force (R39, R40). AMEND_ZONE: a window below 8 is held at the zone's
own, above 240 clamped, and governs the next wait; a change to SINGLE makes a WAITING zone FIRE and posts its ZONE onset, any
other mode change leaves the zone's state; a zone disabled goes QUIET and posts nothing, after a mode change of the same request
(R41, R49, R50). Both refuse a field out of range, DEFINE_ZONE a defined zone (no position: log 18), AMEND_ZONE an undefined
one; of several fields out of range the lowest position is the model's choice (log 36), and so is NO_SUCH_ZONE of an undefined
zone before a mode or disabled value out of range (log 39). A zone enabled is QUIET when no enabled member reports, PREALARM
when PREALARM alone is reported, and is offered the alarm onsets of its enabled members in ascending member order, then a
prealarm onset: SINGLE gives FIRE, COINCIDENCE and DOUBLE_KNOCK wait on one detector and give FIRE on two (R50, R45). -/
def Obligations.ZonesDefinedAndAmended : Prop :=
  (∀ (s : State) (z mode w disabled : Nat) (m : ZoneMode) (d : Bool), s.port.state ≠ .working → isZone z = true →
      ZoneMode.ofCode mode = some m → yesNo disabled = some d → s.zone? z = none →
      let W := if w < 8 then 60 else if 240 < w then 240 else w
      exec (.defineZone z mode w disabled) s = .next { s with
        zones := Tbl.set s.zones z { mode := m, window := W, disabled := d, state := .quiet },
        port := s.port.answering 9
          (if w < 8 then { result := .adjusted, adjusted := [(3, .held)], payload := .window W }
          else if 240 < w then { result := .adjusted, adjusted := [(3, .clamped)], payload := .window W }
          else { result := .ok, adjusted := [], payload := .window W }) })
    ∧ (∀ (s : State) (z w : Nat) (zn : Zone), s.port.state ≠ .working → isZone z = true → s.zone? z = some zn →
        let W := if w < 8 then zn.window else if 240 < w then 240 else w
        let n := if W = zn.window then 0 else 1
        exec (.amendZone z none (some w) none) s = .next { s with
          zones := if W = zn.window then s.zones else Tbl.set s.zones z { zn with window := W },
          port := s.port.answering 10
            (if w < 8 then { result := .adjusted, adjusted := [(3, .held)], payload := .zoneAmended n zn.state }
            else if 240 < w then { result := .adjusted, adjusted := [(3, .clamped)], payload := .zoneAmended n zn.state }
            else { result := .ok, adjusted := [], payload := .zoneAmended n zn.state }) })
    ∧ (∀ (s : State) (z c : Nat) (m : ZoneMode) (zn : Zone), s.port.state ≠ .working → isZone z = true →
        s.zone? z = some zn → ZoneMode.ofCode c = some m →
        (m = zn.mode ∨ m ≠ .single ∨ ∀ f v n, zn.state ≠ .waiting f v n) →
        exec (.amendZone z (some c) none none) s = .next { s with
          zones := if m = zn.mode then s.zones else Tbl.set s.zones z { zn with mode := m },
          port := s.port.answering 10
            { result := .ok, adjusted := [], payload := .zoneAmended (if m = zn.mode then 0 else 1) zn.state } })
    ∧ (∀ (s : State) (z first remaining : Nat) (vacated : Bool) (zn : Zone), s.port.state ≠ .working →
        isZone z = true → s.zone? z = some zn → zn.mode ≠ .single → zn.state = .waiting first vacated remaining →
        exec (.amendZone z (some 0) none none) s = .next { s with
          zones := Tbl.set s.zones z { zn with mode := .single, state := .fire },
          attention := s.attention.post (.zone z) .zoneOnset true,
          port := s.port.answering 10 { result := .ok, adjusted := [], payload := .zoneAmended 1 .fire } })
    ∧ (∀ (s : State) (z : Nat) (zn : Zone), s.port.state ≠ .working → isZone z = true → s.zone? z = some zn →
        zn.disabled = false →
        exec (.amendZone z none none (some 1)) s = .next { s with
          zones := Tbl.set s.zones z { zn with disabled := true, state := .quiet },
          port := s.port.answering 10 { result := .ok, adjusted := [], payload := .zoneAmended 1 .quiet } })
    ∧ (∀ (s : State) (z c : Nat) (zn : Zone), s.port.state ≠ .working → isZone z = true → s.zone? z = some zn →
        yesNo c = some zn.disabled →
        exec (.amendZone z none none (some c)) s = .next (s.setPort (s.port.answering 10
          { result := .ok, adjusted := [], payload := .zoneAmended 0 zn.state })))
    ∧ (∀ (s : State) (z first remaining : Nat) (vacated : Bool) (zn : Zone), s.port.state ≠ .working → isZone z = true →
        s.zone? z = some zn → zn.mode ≠ .single → zn.disabled = false → zn.state = .waiting first vacated remaining →
        exec (.amendZone z (some 0) none (some 1)) s = .next { s with
          zones := Tbl.set s.zones z { zn with mode := .single, disabled := true, state := .quiet },
          attention := s.attention.post (.zone z) .zoneOnset true,
          port := s.port.answering 10 { result := .ok, adjusted := [], payload := .zoneAmended 2 .quiet } })
    ∧ (∀ (s : State) (z mode w disabled : Nat), s.port.state ≠ .working →
        let tests : List (Reply × Prop) :=
          [(.refuseAt .outOfRange 1, 1 ≤ z ∧ z ≤ 32), (.refuseAt .outOfRange 2, mode ≤ 2),
            (.refuseAt .outOfRange 4, disabled ≤ 1), (.refuse .wrongState, s.zone? z = none)]
        ∀ pre f post, tests = pre ++ f :: post → (∀ x ∈ pre, x.2) → ¬ f.2 →
          exec (.defineZone z mode w disabled) s = .next (s.setPort (s.port.answering 9 f.1)))
    ∧ (∀ (s : State) (z : Nat) (mode w disabled : Option Nat), s.port.state ≠ .working →
        let tests : List (Reply × Prop) :=
          [(.refuseAt .outOfRange 1, 1 ≤ z ∧ z ≤ 32), (.refuse .noSuchZone, s.zone? z ≠ none),
            (.refuseAt .outOfRange 2, ∀ v, mode = some v → v ≤ 2), (.refuseAt .outOfRange 4, ∀ v, disabled = some v → v ≤ 1)]
        ∀ pre f post, tests = pre ++ f :: post → (∀ x ∈ pre, x.2) → ¬ f.2 →
          exec (.amendZone z mode w disabled) s = .next (s.setPort (s.port.answering 10 f.1)))
    ∧ ∀ (s : State) (z : Nat) (zn : Zone), TablesLegal s → s.port.state ≠ .working → isZone z = true →
        s.zone? z = some zn → zn.disabled = true →
        let reports := fun (h : Nat) (r : Record) (fs : FireState) =>
          s.rec? h = some r ∧ r.isMember = true ∧ r.zone = z ∧ r.disabled = false ∧ r.cond.fire = fs
        let entered := fun (st : ZoneState) (a : Attention) => { s with
          zones := Tbl.set s.zones z { zn with disabled := false, state := st },
          attention := a,
          port := s.port.answering 10 { result := .ok, adjusted := [], payload := .zoneAmended 1 st } }
        let onset := s.attention.post (.zone z) .zoneOnset true
        ((∀ h r, ¬ reports h r .prealarm ∧ ¬ reports h r .alarm) →
          exec (.amendZone z none none (some 0)) s = .next (entered .quiet s.attention))
        ∧ ((∃ h r, reports h r .prealarm) → (∀ h r, ¬ reports h r .alarm) →
          exec (.amendZone z none none (some 0)) s = .next (entered .prealarm onset))
        ∧ (zn.mode = .single → (∃ h r, reports h r .alarm) →
          exec (.amendZone z none none (some 0)) s = .next (entered .fire onset))
        ∧ (∀ h r, zn.mode = .coincidence → reports h r .alarm → r.kind ≠ .callPoint →
          (∀ g q, reports g q .alarm → g = h) →
          exec (.amendZone z none none (some 0)) s = .next (entered (.waiting h false zn.window) onset))
        ∧ (∀ g h q r, zn.mode = .coincidence → reports g q .alarm → reports h r .alarm → g ≠ h →
          (∀ x y, reports x y .alarm → y.kind ≠ .callPoint) →
          exec (.amendZone z none none (some 0)) s =
            .next (entered .fire (onset.post (.zone z) .zoneOnset true)))
        ∧ (∀ h r, zn.mode = .doubleKnock → reports h r .alarm → r.kind ≠ .callPoint →
          ∃ t, exec (.amendZone z none none (some 0)) s = .next t
            ∧ ((∀ g q, reports g q .alarm → g = h) → s.queue.length < 24 →
              t = { entered (.waiting h false zn.window) onset with
                  records := Tbl.set s.records h { r with cond := { r.cond with fire := .none } }, queue := t.queue }
                ∧ (s.admits h .rearm = true → ({ dest := h, msg := .rearm } : QueueEntry) ∈ t.queue))
            ∧ ((∃ g q, reports g q .alarm ∧ g ≠ h) →
              t.zone? z = some { zn with disabled := false, state := .fire }
                ∧ t.port = (entered .fire s.attention).port))
        ∧ ∀ L : List (Nat × Record), (L.map fun e => e.2.member).Pairwise (· < ·) →
          (∀ h r, (h, r) ∈ L ↔ reports h r .alarm) →
          let opened := { s with zones := Tbl.set s.zones z { zn with disabled := false, state := .quiet } }
          let offered := L.foldl (fun t e => t.offerAlarm z e.1 e.2.kind) opened
          ∃ after st, exec (.amendZone z none none (some 0)) s =
              .next { after with
                port := s.port.answering 10 { result := .ok, adjusted := [], payload := .zoneAmended 1 st } }
            ∧ (after.zone? z).map Zone.state = some st
            ∧ ((∃ h r, reports h r .prealarm) → after = offered.offerPrealarm z)
            ∧ ((∀ h r, ¬ reports h r .prealarm) → after = offered)

/-- Every step keeps the law of the relay tree (R4): every parent 0 or a PENDING or ACTIVE relay, parent chains of at most two
relays, at most 12 children to a relay and 24 descendants to a top relay. The limit of two relays in a chain where a relay with
children is amended is log 14. -/
def Obligations.RelayTreeLawKept : Prop :=
  ∀ s t : State, TreeLegal s → step s = .next t → TreeLegal t

/-- DELETE_ZONE undefines a zone without members and closes a page cursor that is open on it; with members it is refused with
their number. READ_ZONE answers the zone and its members in member order, each once. Both refuse a number that is no zone's and
an undefined zone (R42, R43, R44). -/
def Obligations.DeleteAndReadZone : Prop :=
  (∀ (s : State) (z : Nat), s.port.state ≠ .working → isZone z = false →
      exec (.deleteZone z) s = .next (s.setPort (s.port.answering 11 (.refuseAt .outOfRange 1)))
        ∧ exec (.readZone z) s = .next (s.setPort (s.port.answering 12 (.refuseAt .outOfRange 1))))
    ∧ (∀ (s : State) (z : Nat), s.port.state ≠ .working → isZone z = true → s.zone? z = none →
        exec (.deleteZone z) s = .next (s.setPort (s.port.answering 11 (.refuse .noSuchZone)))
          ∧ exec (.readZone z) s = .next (s.setPort (s.port.answering 12 (.refuse .noSuchZone))))
    ∧ (∀ (s : State) (z : Nat), s.port.state ≠ .working → isZone z = true → (s.zone? z).isSome = true →
        (∀ e ∈ s.records, e.2.isMember = true → e.2.zone ≠ z) →
        exec (.deleteZone z) s = .next { s with
          zones := Tbl.drop s.zones z,
          cursor := (match s.cursor with | some c => if c.1 = z then none else some c | none => none),
          port := s.port.answering 11 { result := .ok, adjusted := [], payload := .none } })
    ∧ (∀ (s : State) (z : Nat) (e : Nat × Record), s.port.state ≠ .working → isZone z = true →
        (s.zone? z).isSome = true → e ∈ s.records → e.2.isMember = true → e.2.zone = z →
        exec (.deleteZone z) s = .next (s.setPort (s.port.answering 11
          { result := .zoneNotEmpty, adjusted := [],
            payload := .members (s.records.filter fun e => e.2.isMember && e.2.zone == z).length })))
    ∧ ∀ (s : State) (z : Nat) (zn : Zone), TablesLegal s → s.port.state ≠ .working → isZone z = true →
        s.zone? z = some zn →
        ∃ ms, exec (.readZone z) s = .next (s.setPort (s.port.answering 12 (.ok (.zone zn ms))))
          ∧ (ms.map Prod.snd).Pairwise (· ≤ ·) ∧ (ms.map Prod.fst).Nodup
          ∧ (RegistryLegal s → (ms.map Prod.snd).Pairwise (· < ·))
          ∧ ∀ h m, (h, m) ∈ ms ↔ ∃ r, s.rec? h = some r ∧ r.isMember = true ∧ r.zone = z ∧ r.member = m

/-- RESET_CONDITIONS of one defined zone, or of all with selector 0, makes each QUIET and, for its members and for no other
record, clears the latch and sets the reported fire state to NONE (a call point's only from ALARM); it posts nothing, adds
nothing but REARM messages of members rearmed to the queue, one for every such member that the queue admits and has room for,
changes nothing else of the Attention Unit than that QUEUE_OVERFLOW may rise where it has not, and answers the zones reset and
the members rearmed. A selector above 32 and an undefined zone are refused (R52). The order of the REARM messages of one zone is
the model's choice (log 33) and is not stated. -/
def Obligations.ResetConditionsQuietensZones : Prop :=
  (∀ (s : State) (k : Nat), TablesLegal s → s.port.state ≠ .working →
      (k = 0 ∨ isZone k = true ∧ (s.zone? k).isSome = true) →
      let named := fun z => (k == 0 || z == k) && (s.zone? z).isSome
      ∃ t, exec (.resetConditions k) s = .next t
        ∧ (∀ z, t.zone? z = (s.zone? z).map fun zn => if named z then { zn with state := .quiet } else zn)
        ∧ (∀ h, t.rec? h = (s.rec? h).map fun r =>
            if r.isMember && named r.zone then
              { r with
                cond := { r.cond with
                  latched := false,
                  fire := if r.kind = .callPoint ∧ r.cond.fire = .prealarm then .prealarm else .none } }
            else r)
        ∧ (t.attention = s.attention ∨ t.attention = s.attention.raise .queueOverflow)
        ∧ (∀ e ∈ t.queue, e ∈ s.queue ∨ e.msg = .rearm ∧ ∃ r, s.rec? e.dest = some r ∧ r.isMember = true
            ∧ named r.zone = true ∧ r.kind ≠ .callPoint ∧ r.cond.fire ≠ .none ∧ s.admits e.dest .rearm = true)
        ∧ (s.queue.length + (s.records.filter fun e =>
              e.2.isMember && named e.2.zone && e.2.kind != .callPoint && e.2.cond.fire != .none).length ≤ 24 →
            t.attention = s.attention ∧ (∀ e ∈ s.queue, e ∈ t.queue)
            ∧ ∀ h r, s.rec? h = some r → r.isMember = true → named r.zone = true → r.kind ≠ .callPoint →
                r.cond.fire ≠ .none → s.admits h .rearm = true → ({ dest := h, msg := .rearm } : QueueEntry) ∈ t.queue)
        ∧ t = { s with
            records := t.records, zones := t.zones, queue := t.queue, attention := t.attention,
            port := s.port.answering 13 {
              result := .ok, adjusted := [],
              payload := .conditionsReset (if k = 0 then s.zones.length else 1) (s.records.filter fun e =>
                e.2.isMember && named e.2.zone && e.2.kind != .callPoint && e.2.cond.fire != .none).length } })
    ∧ (∀ (s : State) (k : Nat), s.port.state ≠ .working → 32 < k →
        exec (.resetConditions k) s = .next (s.setPort (s.port.answering 13 (.refuseAt .outOfRange 1))))
    ∧ ∀ (s : State) (k : Nat), s.port.state ≠ .working → isZone k = true → s.zone? k = none →
        exec (.resetConditions k) s = .next (s.setPort (s.port.answering 13 (.refuse .noSuchZone)))

/-! ### The time plan, the tallies and reachability -/

/-- READ_LANE answers the cells a lane's entries own and the entries in ascending phase order, each once: every current and next
allocation in the lane and no other; a lane outside 1..14 is refused (R67). READ_TIMING answers a record's last, smallest and
largest offsets as they stand and starts a new spread at the last one; with the fields absent it changes nothing; a handle that
is no handle and a VACANT slot are refused (R162). -/
def Obligations.LaneAndTimingRead : Prop :=
  (∀ (s : State) (lane : Nat), s.port.state ≠ .working → isLane lane = false →
      exec (.readLane lane) s = .next (s.setPort (s.port.answering 14 (.refuseAt .outOfRange 1))))
    ∧ (∀ (s : State) (lane : Nat), TablesLegal s → s.port.state ≠ .working → isLane lane = true →
        ∃ entries, exec (.readLane lane) s = .next (s.setPort (s.port.answering 14
            (.ok (.lane (entries.map fun e => 128 / e.alloc.cadence).sum entries))))
          ∧ (entries.map fun e => e.alloc.phase).Pairwise (· ≤ ·)
          ∧ entries.Nodup
          ∧ (MapLegal s → (entries.map fun e => e.alloc.phase).Pairwise (· < ·))
          ∧ ∀ h role a, ({ owner := h, role := role, alloc := a } : LaneEntry) ∈ entries ↔
              a.lane = lane ∧ ∃ r, s.rec? h = some r ∧ (match role with | .current => r.current | .next => r.next) = some a)
    ∧ (∀ (s : State) (h : Nat), s.port.state ≠ .working → isHandle h = false →
        exec (.readTiming h) s = .next (s.setPort (s.port.answering 23 (.refuseAt .outOfRange 1))))
    ∧ (∀ (s : State) (h : Nat), s.port.state ≠ .working → isHandle h = true → s.rec? h = none →
        exec (.readTiming h) s = .next (s.setPort (s.port.answering 23 (.refuse .noSuchRecord))))
    ∧ (∀ (s : State) (h : Nat) (r : Record), s.port.state ≠ .working → isHandle h = true → s.rec? h = some r →
        r.timing = none →
        exec (.readTiming h) s = .next (s.setPort (s.port.answering 23 (.ok (.timing none)))))
    ∧ ∀ (s : State) (h : Nat) (r : Record) (last lo hi : Int), s.port.state ≠ .working → isHandle h = true →
        s.rec? h = some r → r.timing = some { last := last, offsetMin := lo, offsetMax := hi } →
        exec (.readTiming h) s = .next { s with
          records := Tbl.set s.records h { r with timing := some { last := last, offsetMin := last, offsetMax := last } },
          port := s.port.answering 23 (.ok (.timing (some { last := last, offsetMin := lo, offsetMax := hi }))) }

/-- SNAPSHOT, and in AUTO the hyperframe end, move every record's live tally and saturated mark to their snapshot counterparts,
clear the live ones and set SNAPSHOT_TAKEN; in MANUAL the hyperframe end takes none (R97, R98, R99). -/
def Obligations.SnapshotMovesTallies : Prop :=
  let snapped := fun (r : Record) => { r with
    link := { r.link with snap := r.link.live, live := 0, snapSaturated := r.link.saturated, saturated := false } }
  (∀ s : State, s.port.state ≠ .working → ∃ t, exec .snapshot s = .next t
      ∧ (∀ h, t.rec? h = (s.rec? h).map snapped)
      ∧ t = { s with
          records := t.records, attention := s.attention.raise .snapshotTaken,
          port := s.port.answering 15 { result := .ok, adjusted := [], payload := .snapshot s.records.length } })
    ∧ (∀ (s : State) (due : FrameEndDue), s.timer.phase = .frameEnd due → due.hyper = true →
        s.network.params.snapshotAuto = true → ∃ t, exec .hyperframeEnd s = .next t
        ∧ (∀ h, t.rec? h = (s.rec? h).map snapped)
        ∧ t = { s with
            records := t.records, attention := s.attention.raise .snapshotTaken,
            timer := { s.timer with phase := .frameEnd { due with hyper := false } } })
    ∧ ∀ (s : State) (due : FrameEndDue), s.timer.phase = .frameEnd due → due.hyper = true →
        s.network.params.snapshotAuto = false →
        exec .hyperframeEnd s = .next { s with timer := { s.timer with phase := .frameEnd { due with hyper := false } } }

/-- Every step keeps the law of reachability in a lawful tree: a PENDING record is UNHEARD (R93), an ACTIVE one is UNREACHABLE
exactly while its parent chain holds a relay that is LOST or UNREACHABLE (R89), a RETIRING one is neither (R24). That the
cascades pass through a PENDING relay is log 15. -/
def Obligations.ReachabilityLawKept : Prop :=
  ∀ s t : State, TreeLegal s → ReachLegal s → step s = .next t → ReachLegal t

/-! ### Commissioning -/

/-- OPEN_COMMISSIONING with its fields in range sets both filters, opens the window for the duration held at 120 and clamped to
7200, and keeps the Candidate Table; with a field out of range it is refused with the field's position (R131; that the lowest is
answered is log 36); CLOSE_COMMISSIONING and the expiry of the window close it and keep filters and candidates
(R131, R132). -/
def Obligations.CommissioningWindowOpensAndCloses : Prop :=
  (∀ (s : State) (va vb : Serial) (la ea lb eb d : Nat) (enabledA enabledB : Bool), s.port.state ≠ .working → la ≤ 40 →
      lb ≤ 40 → yesNo ea = some enabledA → yesNo eb = some enabledB →
      let D := if d < 120 then 120 else if 7200 < d then 7200 else d
      exec (.openCommissioning va la ea vb lb eb d) s = .next { s with
        commissioning :=
          { filterA := { value := va, length := la, enabled := enabledA },
            filterB := { value := vb, length := lb, enabled := enabledB },
            window := some D, candidates := s.commissioning.candidates },
        port := s.port.answering 16
          (if d < 120 then { result := .adjusted, adjusted := [(7, .held)], payload := .duration D }
          else if 7200 < d then { result := .adjusted, adjusted := [(7, .clamped)], payload := .duration D }
          else { result := .ok, adjusted := [], payload := .duration D }) })
    ∧ (∀ (s : State) (va vb : Serial) (la ea lb eb d : Nat), s.port.state ≠ .working →
        let inRange : List (Nat × Prop) := [(2, la ≤ 40), (3, ea ≤ 1), (5, lb ≤ 40), (6, eb ≤ 1)]
        ∀ pre f post, inRange = pre ++ f :: post → (∀ x ∈ pre, x.2) → ¬ f.2 →
          exec (.openCommissioning va la ea vb lb eb d) s =
            .next (s.setPort (s.port.answering 16 (.refuseAt .outOfRange f.1))))
    ∧ (∀ s : State, s.port.state ≠ .working →
        exec .closeCommissioning s = .next { s with
          commissioning := { s.commissioning with window := none },
          port := s.port.answering 17 { result := .ok, adjusted := [], payload := .none } })
    ∧ ∀ s : State, s.commissioning.window = some 0 →
        exec .commissioningWindowExpiry s = .next { s with commissioning := { s.commissioning with window := none } }

/-- READ_CANDIDATES answers the window and the entries, oldest first. DISMISS_CANDIDATE removes the entry of a serial, the
entries after it keeping their order, or is refused with NO_SUCH_RECORD (R134, R135). -/
def Obligations.CandidatesReadAndDismissed : Prop :=
  (∀ s : State, s.port.state ≠ .working →
      exec .readCandidates s = .next (s.setPort (s.port.answering 18
        (.ok (.candidates s.commissioning.window s.commissioning.candidates)))))
    ∧ (∀ (s : State) (pre post : List Candidate) (c : Candidate), s.port.state ≠ .working →
        s.commissioning.candidates = pre ++ c :: post → (∀ x ∈ pre ++ post, x.serial ≠ c.serial) →
        exec (.dismissCandidate c.serial) s = .next { s with
          commissioning := { s.commissioning with candidates := pre ++ post },
          port := s.port.answering 19 { result := .ok, adjusted := [], payload := .none } })
    ∧ ∀ (s : State) (serial : Serial), s.port.state ≠ .working →
        (∀ x ∈ s.commissioning.candidates, x.serial ≠ serial) →
        exec (.dismissCandidate serial) s = .next (s.setPort (s.port.answering 19 (.refuse .noSuchRecord)))

/-! ### The channel and the answers -/

/-- CHANGE_CHANNEL by the rows of Table 8-3 (R156); that its WRONG_STATE carries no position is log 18. An automatic changeover
begins at a frame end when agility is on, the plan has more than one channel, the network is RUNNING, the persistence count is
40 or more and no countdown runs, and not otherwise; a changeover whose beacon showed 1 completes: the target is the current
index and the monitor's history starts afresh (R155, R157). -/
def Obligations.ChannelChanges : Prop :=
  (∀ (s : State) (i : Nat), s.port.state ≠ .working → (s.network.state = .forming ∨ s.network.state = .halting) →
      exec (.changeChannel i) s = .next (s.setPort (s.port.answering 21 (.refuse .wrongState))))
    ∧ (∀ (s : State) (i : Nat), s.port.state ≠ .working → (s.network.state = .halted ∨ s.network.state = .running) →
        s.network.params.plan.length ≤ i →
        exec (.changeChannel i) s = .next (s.setPort (s.port.answering 21 (.refuseAt .outOfRange 1))))
    ∧ (∀ (s : State) (i : Nat) (c : Changeover), s.port.state ≠ .working → s.network.state = .running →
        i < s.network.params.plan.length → s.monitor.changeover = some c →
        exec (.changeChannel i) s = .next (s.setPort (s.port.answering 21
          { result := .busy, adjusted := [], payload := .busy s.monitor.index c.countdown c.target })))
    ∧ (∀ (s : State) (i : Nat), s.port.state ≠ .working → s.network.state = .halted →
        i < s.network.params.plan.length → s.monitor.changeover = none →
        exec (.changeChannel i) s = .next { s with
          monitor := { s.monitor with index := i },
          port := s.port.answering 21 (.ok (.channelChange i 0 none)) })
    ∧ (∀ s : State, s.port.state ≠ .working → s.network.state = .running →
        s.monitor.index < s.network.params.plan.length → s.monitor.changeover = none →
        exec (.changeChannel s.monitor.index) s =
          .next (s.setPort (s.port.answering 21 (.ok (.channelChange s.monitor.index 0 none)))))
    ∧ (∀ (s : State) (i : Nat), s.port.state ≠ .working → s.network.state = .running →
        i < s.network.params.plan.length → s.monitor.changeover = none → i ≠ s.monitor.index →
        exec (.changeChannel i) s = .next { s with
          monitor := { s.monitor with
            persistence := 0, changeover := some { countdown := 8, target := i, shownLast := false } },
          port := s.port.answering 21 (.ok (.channelChange s.monitor.index 8 (some i))) })
    ∧ (∀ (s : State) (due : FrameEndDue), s.timer.phase = .frameEnd due → due.autoTest = true →
      s.network.params.agility = true → 1 < s.network.params.plan.length → s.network.state = .running →
      40 ≤ s.monitor.persistence → s.monitor.changeover = none →
      exec .autoChangeover s = .next { s with
        timer := { s.timer with phase := .frameEnd { due with autoTest := false } },
        monitor := { s.monitor with
          persistence := 0,
          changeover := some
            { countdown := 8,
              target := if s.monitor.index + 1 < s.network.params.plan.length then s.monitor.index + 1 else 0,
              shownLast := false } } })
    ∧ (∀ (s : State) (due : FrameEndDue), s.timer.phase = .frameEnd due → due.autoTest = true →
        (s.network.params.agility = false ∨ s.network.params.plan.length ≤ 1 ∨ s.network.state ≠ .running
          ∨ s.monitor.persistence < 40 ∨ s.monitor.changeover ≠ none) →
        exec .autoChangeover s = .next { s with
          timer := { s.timer with phase := .frameEnd { due with autoTest := false } } })
    ∧ ∀ (s : State) (due : FrameEndDue) (c : Changeover), s.timer.phase = .frameEnd due →
        s.monitor.changeover = some c → c.shownLast = true →
        exec .changeoverComplete s = .next { s with
          monitor := { index := c.target, history := [], interfered := false, persistence := 0, changeover := none },
          attention := s.attention.raise .channelChanged }

/-- Answers as bytes (Table 11-3, 11.1, 11.3, R182 to R185): the frame, the numbers of the result codes and of Table 11-1, the
64-byte record image, the 9-byte zone summary, the 12-byte summaries, the attention payload, the refusals' extra content,
READ_QUEUE's payload with its presence byte, and every other payload in the order of its request's rule (R184). What log 10 and
log 11 leave free is not stated; the payload length counts the payload alone, and a count, a cadence of ENROL and READ_LANE and
a frame number are one byte, the vendor and part codes two (log 12). -/
def Obligations.AnswerFramesLaidOut : Prop :=
  let one := fun n : Nat => (BitVec.ofNat 8 n : Byte)
  let two := fun n : Nat => [one (n / 256), one n]
  let yes := fun b : Bool => (if b then 1 else 0 : Byte)
  let signed := fun i : Int => two (i % 65536).toNat
  let cut := fun (l : List Byte) (i n : Nat) => (l.drop i).take n
  let place := fun a : Option Alloc => match a with | some a => [one a.lane, one a.cadence, one a.phase] | none => [0, 0, 0]
  let grace := fun l : Lifecycle => match l with | .retiring g => some g | _ => none
  let first := fun st : ZoneState => match st with | .waiting f _ _ => some f | _ => none
  let remaining := fun st : ZoneState => match st with | .waiting _ _ n => some n | _ => none
  (∀ a : Answer, a.bytes =
      [a.kind, one a.result.code, yes a.discarded] ++ two a.payload.bytes.length
        ++ (if a.result = .adjusted then
            one a.adjusted.length :: a.adjusted.flatMap fun x => [one x.1, if x.2 = .held then 1 else 2]
          else [])
        ++ a.payload.bytes)
    ∧ ([ResultCode.ok, .adjusted, .malformed, .outOfRange, .wrongState, .busy, .empty, .endOfPage, .noSuchRecord, .noSuchZone,
        .noCursor, .full, .duplicateSerial, .addressTaken, .handleTaken, .badParent, .routeFull, .hasChildren, .zoneNotEmpty,
        .noCapacity, .slotConflict, .limitViolation, .radioFault].map ResultCode.code = List.range 23)
    ∧ ([Kind.detector, .callPoint, .relay].map Kind.code = [0, 1, 2]
        ∧ (∀ g, [none, some Lifecycle.pending, some .active, some (.retiring g)].map lifecycleCode = [0, 1, 2, 3])
        ∧ [LinkState.unheard, .linked, .marginal, .lost, .unreachable].map LinkState.code = [0, 1, 2, 3, 4]
        ∧ [FireState.none, .prealarm, .alarm].map FireState.code = [0, 1, 2]
        ∧ [IndicatorMode.off, .alarmOnly, .heartbeat].map IndicatorMode.code = [0, 1, 2]
        ∧ [ZoneMode.single, .coincidence, .doubleKnock].map ZoneMode.code = [0, 1, 2]
        ∧ (∀ f v n, [ZoneState.quiet, .prealarm, .waiting f v n, .fire].map ZoneState.code = [0, 1, 2, 3])
        ∧ [EdgeSel.onsetOnly, .both].map EdgeSel.code = [0, 1])
    ∧ (∀ (h : Nat) (r : Record) (kids : List Nat), kids.length ≤ 12 →
        let m := (Payload.record h r kids).bytes
        let offsets := (r.timing.map fun t => signed t.last ++ signed t.offsetMin ++ signed t.offsetMax).getD
          (List.replicate 6 0)
        m.length = 64
          ∧ cut m 0 2 = [one h, one (lifecycleCode (some r.lifecycle))]
          ∧ cut m 2 5 = [r.serial.extractLsb' 32 8, r.serial.extractLsb' 24 8, r.serial.extractLsb' 16 8,
              r.serial.extractLsb' 8 8, r.serial.extractLsb' 0 8]
          ∧ cut m 7 9 = [one r.kind.code, one r.zone, one r.member, one r.settings.parent, one r.settings.sensitivity,
              one r.settings.indicator.code, one r.settings.cadence, r.version, yes r.disabled]
          ∧ cut m 16 2 = two ((grace r.lifecycle).getD 0)
          ∧ cut m 18 6 = place r.current ++ place r.next
          ∧ cut m 24 3 = one r.link.state.code :: two (r.link.lqf.getD 0)
          ∧ cut m 27 2 = [one r.link.missRun, one r.link.history.length]
          ∧ (∀ b, m[29]? = some b → ∀ i < 8, b.getLsbD i = (r.link.history[i]? == some .heard))
          ∧ cut m 30 4 = two r.link.live ++ two r.link.snap
          ∧ cut m 34 3 = [yes r.link.saturated + 2 * yes r.link.snapSaturated, one r.cond.fire.code,
              if r.cond.latched then 2 else 0]
          ∧ cut m 37 4 = [one (r.cond.lastSeq.getD 0), r.cond.faults.setWidth 8, one (r.cond.battery.getD 0),
              r.cond.reportedVersion.getD 0]
          ∧ cut m 41 6 = offsets
          ∧ cut m 47 13 = one kids.length :: kids.map one ++ List.replicate (12 - kids.length) 0
          ∧ cut m 60 3 = (match r.route with
              | some x => [x.version, x.reported.getD 0, one x.staleRun]
              | none => [0, 0, 0])
          ∧ ∀ b, m[63]? = some b →
              b.getLsbD 0 = (grace r.lifecycle).isSome ∧ b.getLsbD 1 = r.link.lqf.isSome
                ∧ b.getLsbD 2 = r.cond.lastSeq.isSome ∧ b.getLsbD 3 = r.cond.battery.isSome
                ∧ b.getLsbD 4 = r.cond.reportedVersion.isSome ∧ b.getLsbD 5 = r.timing.isSome
                ∧ b.getLsbD 6 = (r.route.bind Route.reported).isSome ∧ b.getLsbD 7 = false)
    ∧ (Summary.vacant.bytes = List.replicate 12 0 ∧ Summary.undefinedZone.bytes = List.replicate 12 0
        ∧ (∀ lc k z m d l f latched fs bt v rv,
            (Summary.record lc k z m d l f latched fs bt v rv).bytes =
              [one (lifecycleCode (some lc)), one k.code, one z, one m, yes d, one l.code, one f.code,
                if latched then 2 else 0, fs.setWidth 8, (bt.map one).getD 0xFF, v, rv.getD 0xFF])
        ∧ ∀ (z : Zone) (n : Nat), (Summary.zone z n).bytes =
            [1, one z.mode.code, one z.window, yes z.disabled, one z.state.code, one ((first z.state).getD 0),
              one ((remaining z.state).getD 0), one n, if (first z.state).isSome then 3 else 0, 0, 0, 0])
    ∧ (∀ f e left summary, (Payload.attention f e left summary).bytes =
        two f.toNat ++ (match e.target with | .record h => [0, one h] | .zone z => [1, one z]) ++ two e.marks.toNat
          ++ [yes e.urgent, one left] ++ summary.bytes)
    ∧ (∀ n i c t : Nat, (Payload.position n).bytes = [one n] ∧ (Payload.members n).bytes = [one n]
        ∧ (Payload.offender n).bytes = [one n] ∧ (Payload.busy i c t).bytes = [one i, one c, one t])
    ∧ (∀ f : FlagSet, (Payload.flags f).bytes = two f.toNat)
    ∧ (∀ h m k lc l latched f (fs : FaultSet) d, (Payload.zoneSummary h m k lc l latched f fs d).bytes =
        [one h, one m, one k.code, one (lifecycleCode (some lc)), one l.code, if latched then 2 else 0, one f.code,
          fs.setWidth 8, yes d])
    ∧ (∀ (z : Zone) (ms : List (Nat × Nat)), (Payload.zone z ms).bytes =
        [one z.mode.code, one z.window, yes z.disabled, one z.state.code, one ((first z.state).getD 0),
            one ((remaining z.state).getD 0), one ms.length]
          ++ (ms.flatMap fun m => [one m.1, one m.2]) ++ [if (first z.state).isSome then 3 else 0])
    ∧ (∃ current next : Byte, ∀ (owned : Nat) (es : List LaneEntry), (Payload.lane owned es).bytes =
        [one owned, one es.length] ++ es.flatMap fun e =>
          [one e.owner, if e.role = .current then current else next, one e.alloc.cadence, one e.alloc.phase])
    ∧ (∃ closed opened : Byte, ∀ (w : Option Nat) (es : List Candidate), (Payload.candidates w es).bytes =
        [if w.isSome then opened else closed] ++ two (w.getD 0) ++ [one es.length]
          ++ (es.flatMap fun e => [e.serial.extractLsb' 32 8, e.serial.extractLsb' 24 8, e.serial.extractLsb' 16 8,
              e.serial.extractLsb' 8 8, e.serial.extractLsb' 0 8, one e.kind.code, one e.via, one e.margin, one e.attempts,
              one e.frame]) ++ [yes w.isSome])
    ∧ (∃ clear interfered : Byte, ∀ plan i st p n b16 ball c (target : Option Nat),
        (Payload.channel plan i st p n b16 ball c target).bytes =
          [one plan.length] ++ plan.map one ++ [one i, if st then interfered else clear, one p, one n, one b16, one ball,
            one c, one (target.getD 0), yes target.isSome])
    ∧ (∀ (i c : Nat) (target : Option Nat), (Payload.channelChange i c target).bytes =
        [one i, one c, one (target.getD 0), yes target.isSome])
    ∧ ((Payload.timing none).bytes = List.replicate 7 0
        ∧ ∀ x : Timing, (Payload.timing (some x)).bytes = signed x.last ++ signed x.offsetMin ++ signed x.offsetMax ++ [7])
    ∧ (∀ (h c : Nat) (given : Option Alloc), (Payload.enrolled h c given).bytes =
        [one h, one c, one ((given.map Alloc.lane).getD 0), one ((given.map Alloc.phase).getD 0)])
    ∧ (∀ (n : Nat) (v : Version), (Payload.amended n v).bytes = [one n, v])
    ∧ (∀ (lc : Option Lifecycle) (n m : Nat) (st : ZoneState), (Payload.retired lc).bytes = [one (lifecycleCode lc)]
        ∧ (Payload.window n).bytes = [one n] ∧ (Payload.zoneAmended n st).bytes = [one n, one st.code]
        ∧ (Payload.conditionsReset n m).bytes = [one n, one m] ∧ (Payload.snapshot n).bytes = [one n]
        ∧ (Payload.duration n).bytes = two n ∧ Payload.none.bytes = [])
    ∧ (∀ h lc (k : Kind) z m, (Payload.found h lc k z m).bytes =
        [one h, one (lifecycleCode (some lc)), one k.code, one z, one m])
    ∧ (∀ (c : CauseSet) (e : Edges), (Payload.causes c).bytes = [c.setWidth 8]
        ∧ (Payload.edges e).bytes = [one e.fire.code, one e.zone.code, one e.link.code, one e.fault.code])
    ∧ (∀ p : Params, (Payload.params p).bytes =
        two p.networkId ++ [one p.plan.length] ++ p.plan.map one ++ [one p.missLimit] ++ two p.ceiling
          ++ [one p.floor, one p.hysteresis, one (p.threshold % 256).toNat, yes p.agility] ++ two p.guard
          ++ [if p.snapshotAuto then 0 else 1])
    ∧ (∃ (codes : NetState → Byte) (stopped : Byte), ∀ st f (slot : Option Nat) n c,
        (Payload.network st f slot n c).bytes =
          [codes st, one f, (match slot with | some x => one x | none => stopped), one n, one c])
    ∧ (∀ v p r : Nat, (Payload.identity v p r).bytes = two v ++ two p ++ [one r])
    ∧ ∀ vs : List QueueView,
        let values := fun v : QueueView => (match v.entry.msg with
          | .alarmAck q => [one q, 0, 0]
          | .timeCorrection o => 0 :: signed o
          | _ => [0, 0, 0] : List Byte)
        let present := vs.flatMap fun v => match v.entry.msg with
          | .alarmAck _ => [true, false]
          | .timeCorrection _ => [false, true]
          | _ => [false, false]
        ∃ (codes : List Byte) (more : List Byte), codes.length = vs.length
          ∧ (Payload.queue vs).bytes = one vs.length :: ((vs.zip codes).flatMap fun x =>
              [one x.1.position, one x.1.entry.dest, x.2, one x.1.entry.msg.rank, one x.1.firstHop] ++ values x.1) ++ more
          ∧ (vs = [] → more = [])
          ∧ (vs ≠ [] → ∃ b, more.getLast? = some b ∧ ∀ i < 8, b.getLsbD i = (present.getD i false))
          ∧ (vs.length ≤ 4 → more.length ≤ 1)

/-- READ_QUEUE, READ_CHANNEL, READ_PARAMETERS, READ_NETWORK and READ_IDENTITY answer what the part holds and change nothing else
(R147, R159, R181). Between FRAME_END and the next BEACON READ_NETWORK answers slot 19 of the frame that ended, which is the
model's choice (log 41). Between the beacon and the first event of slot 1 READ_NETWORK may find slot 0 closed: it answers slot 0
or slot 1, a free choice that moves the timer with it (log 6). -/
def Obligations.ReadsAnswerThePart : Prop :=
  (∀ s : State, s.port.state ≠ .working →
      ∃ vs, exec .readQueue s = .next (s.setPort (s.port.answering 20 (.ok (.queue vs))))
        ∧ vs.length = s.queue.length
        ∧ ∀ i e, s.queue[i]? = some e →
            vs[i]? = some ({ position := i + 1, entry := e, firstHop := s.firstHop e.dest } : QueueView))
    ∧ (∀ s : State, s.port.state ≠ .working → s.monitor.history.length ≤ 32 →
        exec .readChannel s = .next (s.setPort (s.port.answering 22
          (.ok (.channel s.network.params.plan s.monitor.index s.monitor.interfered s.monitor.persistence
            s.monitor.history.length ((s.monitor.history.take 16).filter id).length (s.monitor.history.filter id).length
            ((s.monitor.changeover.map Changeover.countdown).getD 0) (s.monitor.changeover.map Changeover.target))))))
    ∧ (∀ s : State, s.port.state ≠ .working →
        exec .readParameters s = .next (s.setPort (s.port.answering 34 (.ok (.params s.network.params)))))
    ∧ (∀ (s : State) (channel : Nat), s.port.state ≠ .working →
        s.network.params.plan[s.monitor.index]? = some channel → s.timer.phase ≠ .inSlot 0 →
        let slot := match s.timer.phase with
          | .stopped => none
          | .beaconDue => some 0
          | .inSlot n => some n
          | .downlinkDue => some 18
          | .frameEnd _ => some 19
        exec .readNetwork s = .next (s.setPort (s.port.answering 35
          (.ok (.network s.network.state s.timer.frame slot s.network.formingCount channel)))))
    ∧ (∀ (s : State) (channel : Nat), s.port.state ≠ .working →
        s.network.params.plan[s.monitor.index]? = some channel → s.timer.phase = .inSlot 0 →
        ∃ slot, (slot = 0 ∨ slot = 1) ∧ exec .readNetwork s = .next { s with
          timer := { s.timer with phase := .inSlot slot }, choices := s.choices + 1,
          port := s.port.answering 35
            (.ok (.network s.network.state s.timer.frame (some slot) s.network.formingCount channel)) })
    ∧ ∀ s : State, s.port.state ≠ .working →
        exec .readIdentity s = .next (s.setPort (s.port.answering 36 (.ok (.identity 0x0A7E 0x0340 2))))

/-! ### Attention and flags -/

/-- TAKE_ATTENTION removes the first entry and answers it with the set flags, the number of entries left and a summary of its
target as it stands; with the list empty it answers EMPTY and the flags (R168, R169). -/
def Obligations.TakeAttentionTakesTheFirst : Prop :=
  (∀ s : State, s.port.state ≠ .working → s.attention.entries = [] →
      exec .takeAttention s = .next (s.setPort (s.port.answering 24
        { result := .empty, adjusted := [], payload := .flags s.attention.flags })))
    ∧ ∀ (s : State) (e : AttnEntry) (rest : List AttnEntry), s.port.state ≠ .working →
        s.attention.entries = e :: rest →
        ∃ summary, exec .takeAttention s = .next { s with
            attention := { s.attention with entries := rest },
            port := s.port.answering 24 (.ok (.attention s.attention.flags e rest.length summary)) }
          ∧ (∀ h, e.target = .record h → s.rec? h = none → summary = .vacant)
          ∧ (∀ h r, e.target = .record h → s.rec? h = some r →
              summary = .record r.lifecycle r.kind r.zone r.member r.disabled r.link.state r.cond.fire r.cond.latched
                r.cond.faults r.cond.battery r.version r.cond.reportedVersion)
          ∧ (∀ z, e.target = .zone z → s.zone? z = none → summary = .undefinedZone)
          ∧ ∀ z zn, e.target = .zone z → s.zone? z = some zn →
              summary = .zone zn (s.records.filter fun e => e.2.isMember && e.2.zone == z).length

/-- A posting is kept when its cause is enabled, a clearing only under the edge selection BOTH; one that is not kept changes
nothing (R164). A kept posting reaches the Attention List by R167: a new entry at the end of its class, a mark added in place,
or a promotion to the end of the urgent part. -/
def Obligations.PostingEntersTheList : Prop :=
  (∀ (a : Attention) (U R : List AttnEntry) (x : Target) (m : Mark) (urgent : Bool), a.keeps m = true →
      a.entries = U ++ R → (∀ e ∈ U, e.urgent = true) → (∀ e ∈ R, e.urgent = false) →
      (a.entries.Pairwise fun e f => e.target ≠ f.target) →
      ((∀ e ∈ a.entries, e.target ≠ x) →
          (a.post x m urgent).entries =
            if urgent then U ++ { target := x, marks := m.mask, urgent := true } :: R
            else U ++ R ++ [{ target := x, marks := m.mask, urgent := false }])
        ∧ (∀ U₁ U₂ e, U = U₁ ++ e :: U₂ → e.target = x →
            (a.post x m urgent).entries = U₁ ++ { e with marks := e.marks ||| m.mask } :: U₂ ++ R)
        ∧ (∀ R₁ R₂ e, R = R₁ ++ e :: R₂ → e.target = x →
            (a.post x m urgent).entries =
              if urgent then U ++ { e with marks := e.marks ||| m.mask, urgent := true } :: (R₁ ++ R₂)
              else U ++ R₁ ++ { e with marks := e.marks ||| m.mask } :: R₂))
    ∧ (∀ (a : Attention) (x : Target) (m : Mark) (urgent : Bool),
        a.post x m urgent = if a.keeps m then { a with entries := (a.post x m urgent).entries } else a)
    ∧ (∀ m : Mark, ∃ n < 10, m.mask = 1#10 <<< n ∧ n = match m with
        | .fireOnset => 0 | .fireClearing => 1 | .zoneOnset => 2 | .zoneClearing => 3 | .linkOnset => 4
        | .linkClearing => 5 | .faultOnset => 6 | .faultClearing => 7 | .settings => 8 | .lifecycle => 9)
    ∧ ∀ (a : Attention) (m : Mark), a.keeps m = match m with
        | .fireOnset => a.enables.getLsbD 0
        | .fireClearing => a.enables.getLsbD 0 && a.edges.fire == .both
        | .zoneOnset => a.enables.getLsbD 1
        | .zoneClearing => a.enables.getLsbD 1 && a.edges.zone == .both
        | .linkOnset => a.enables.getLsbD 2
        | .linkClearing => a.enables.getLsbD 2 && a.edges.link == .both
        | .faultOnset => a.enables.getLsbD 3
        | .faultClearing => a.enables.getLsbD 3 && a.edges.fault == .both
        | .settings => a.enables.getLsbD 4
        | .lifecycle => a.enables.getLsbD 5

/-- SET_NOTIFY and CLEAR_NOTIFY, SET_FLAG_NOTIFY and CLEAR_FLAG_NOTIFY, and ACK_FLAGS work bit by bit on the causes and flags
they name and on no other, ACK_FLAGS leaving HALTED set while the network is HALTED; a set that names anything else is refused
(R165, R171, R172). SET_EDGES sets the edge selection of each present field and leaves the others; a present value that is
neither 0 nor 1 is refused (R166); that the lowest position is answered is log 36. ATTN is asserted exactly while the Attention
List holds an entry or a flag is both set and enabled (R173), READY exactly in ANSWER_READY (Table 10-1). -/
def Obligations.MasksAndEdgesFollowTheRequests : Prop :=
  let sel := fun (field : Option Nat) (old : EdgeSel) =>
    match field with
    | none => old
    | some 0 => EdgeSel.onsetOnly
    | some _ => EdgeSel.both
  let bad := fun (field : Option Nat) => ∃ v, field = some v ∧ 2 ≤ v
  (∀ (s : State) (m : Nat), s.port.state ≠ .working → m < 64 →
      ∃ c, exec (.setNotify m) s = .next { s with
          attention := { s.attention with enables := c }, port := s.port.answering 25 (.ok (.causes c)) }
        ∧ ∀ i < 6, c.getLsbD i = (s.attention.enables.getLsbD i || m.testBit i))
    ∧ (∀ (s : State) (m : Nat), s.port.state ≠ .working → m < 64 →
        ∃ c, exec (.clearNotify m) s = .next { s with
            attention := { s.attention with enables := c }, port := s.port.answering 26 (.ok (.causes c)) }
          ∧ ∀ i < 6, c.getLsbD i = (s.attention.enables.getLsbD i && !m.testBit i))
    ∧ (∀ (s : State) (m : Nat), s.port.state ≠ .working → m < 1024 →
        ∃ f, exec (.ackFlags m) s = .next { s with
            attention := { s.attention with flags := f }, port := s.port.answering 28 (.ok (.flags f)) }
          ∧ ∀ i < 10, f.getLsbD i =
              (s.attention.flags.getLsbD i && !(m.testBit i && !(i == 9 && s.network.state == .halted))))
    ∧ (∀ (s : State) (m : Nat), s.port.state ≠ .working → m < 1024 →
        ∃ f, exec (.setFlagNotify m) s = .next { s with
            attention := { s.attention with mask := f }, port := s.port.answering 29 (.ok (.flags f)) }
          ∧ ∀ i < 10, f.getLsbD i = (s.attention.mask.getLsbD i || m.testBit i))
    ∧ (∀ (s : State) (m : Nat), s.port.state ≠ .working → m < 1024 →
        ∃ f, exec (.clearFlagNotify m) s = .next { s with
            attention := { s.attention with mask := f }, port := s.port.answering 30 (.ok (.flags f)) }
          ∧ ∀ i < 10, f.getLsbD i = (s.attention.mask.getLsbD i && !m.testBit i))
    ∧ (∀ (s : State) (m : Nat), s.port.state ≠ .working → 64 ≤ m →
        exec (.setNotify m) s = .next (s.setPort (s.port.answering 25 (.refuseAt .outOfRange 1)))
          ∧ exec (.clearNotify m) s = .next (s.setPort (s.port.answering 26 (.refuseAt .outOfRange 1))))
    ∧ (∀ (s : State) (m : Nat), s.port.state ≠ .working → 1024 ≤ m →
        exec (.ackFlags m) s = .next (s.setPort (s.port.answering 28 (.refuseAt .outOfRange 1)))
          ∧ exec (.setFlagNotify m) s = .next (s.setPort (s.port.answering 29 (.refuseAt .outOfRange 1)))
          ∧ exec (.clearFlagNotify m) s = .next (s.setPort (s.port.answering 30 (.refuseAt .outOfRange 1))))
    ∧ (∀ (s : State) (f z l t : Option Nat), s.port.state ≠ .working → ¬ bad f → ¬ bad z → ¬ bad l → ¬ bad t →
      let e : Edges := { fire := sel f s.attention.edges.fire, zone := sel z s.attention.edges.zone,
                         link := sel l s.attention.edges.link, fault := sel t s.attention.edges.fault }
      exec (.setEdges f z l t) s = .next { s with
        attention := { s.attention with edges := e }, port := s.port.answering 27 (.ok (.edges e)) })
    ∧ (∀ (s : State) (f z l t : Option Nat), s.port.state ≠ .working → bad f →
        exec (.setEdges f z l t) s = .next (s.setPort (s.port.answering 27 (.refuseAt .outOfRange 1))))
    ∧ (∀ (s : State) (f z l t : Option Nat), s.port.state ≠ .working → ¬ bad f → bad z →
        exec (.setEdges f z l t) s = .next (s.setPort (s.port.answering 27 (.refuseAt .outOfRange 2))))
    ∧ (∀ (s : State) (f z l t : Option Nat), s.port.state ≠ .working → ¬ bad f → ¬ bad z → bad l →
        exec (.setEdges f z l t) s = .next (s.setPort (s.port.answering 27 (.refuseAt .outOfRange 3))))
    ∧ (∀ (s : State) (f z l t : Option Nat), s.port.state ≠ .working → ¬ bad f → ¬ bad z → ¬ bad l → bad t →
        exec (.setEdges f z l t) s = .next (s.setPort (s.port.answering 27 (.refuseAt .outOfRange 4))))
    ∧ ∀ s : State,
        (attnLine s = true ↔ s.attention.entries ≠ []
          ∨ ∃ i < 10, s.attention.flags.getLsbD i = true ∧ s.attention.mask.getLsbD i = true)
        ∧ (readyLine s = true ↔ ∃ a, s.port.state = .answerReady a)

/-- What a heard check-in of a cell's owner posts and requests, in this order: LIFECYCLE when it makes the record ACTIVE (R128),
LINK when the link state changes (R86; a LOST relay that recovers returns the ACTIVE records below it, R88, R112, those below a
PENDING relay included, which is log 15), a FAULT onset and a clearing for faults gained and lost (R34, log 30), SETTINGS when
an ACTIVE record newly reports its settings version (R35), and then what its fire state gives: State.applyFire on the state that
the other parts leave (R32, R37, R38; ZoneWindowAndOnsetDecisions says what that is). It requests RETIRE_NOTICE for a RETIRING
record (R22), SETTINGS for an ACTIVE one that reports another version (R35), neither for a relay that stays LOST (R139), and
TIME_CORRECTION for an offset beyond the guard (R161), whose place among them is free, so that a recovering relay may get none
(log 8). A relay's roll-call is walked last (R104): State.walk, of which RollCallWalked says what it makes of the records. Lane
1 closes from slot 0 too (log 6). -/
def Obligations.HeardReportPostsAndRequests : Prop :=
  ∀ (s : State) (n h : Nat) (r : Record) (a : Alloc) (rep : Report) (roll : Option RollCall) (level offset : Int),
    MapLegal s → (r.kind = .relay → TreeLegal s ∧ ReachLegal s) →
    (s.timer.phase = .inSlot n ∨ n = 1 ∧ s.timer.phase = .inSlot 0) → 1 ≤ n → n ≤ 14 → s.rec? h = some r →
    r.link.state ≠ .unreachable → (r.current = some a ∨ r.next = some a) → a.lane = n → s.timer.frame % a.cadence = a.phase →
    s.held = [{ slot := n, frame := .checkIn h rep roll, level := level, offset := offset, senderVacated := false }] →
    let reported := if r.kind = .callPoint ∧ rep.fire = .prealarm then FireState.none else rep.fire
    s.queue.length + (if reported = r.cond.fire then 1 else 2) < 24 →
    let posted := fun (cond : Bool) (m : Mark) (x : Attention) => if cond then x.post (.record h) m false else x
    let gone := fun x y : FaultSet => x &&& ~~~y != 0
    ∃ (t : State) (last new : Record), exec .laneSlotClose s = .next t ∧ t.rec? h = some last
      ∧ new = { last with route := r.route }
      ∧ (let asks : Option Msg :=
          if r.kind = .relay ∧ new.link.state = .lost then none
          else if r.isRetiring then some .retireNotice
          else if rep.version = r.version then none else some .settings
        let returned := fun (_ : Nat) (q : Record) =>
          if r.kind = .relay ∧ r.link.state = .lost ∧ new.link.state ≠ .lost
              ∧ (q.settings.parent = h ∨ s.parentOf q.settings.parent = h) ∧ q.isActive = true then
            { q with link := { q.link with state := .unheard, missRun := 0 } }
          else q
        let before := { s with
          records := Tbl.set (Tbl.mapValues returned s.records) h
            { new with cond := { new.cond with fire := r.cond.fire, latched := r.cond.latched } },
          attention :=
            posted (!r.isRetiring && rep.version == r.version && r.cond.reportedVersion != some r.version) .settings
              (posted (gone r.cond.faults rep.faults) .faultClearing
                (posted (gone rep.faults r.cond.faults) .faultOnset
                  (posted (new.link.state != r.link.state && new.link.state == LinkState.linked) .linkClearing
                    (posted (new.link.state != r.link.state && new.link.state != LinkState.linked) .linkOnset
                      (posted r.isPending .lifecycle s.attention))))),
          queue := match asks with
            | some m => (insertRequest s.queue { dest := h, msg := m }).1
            | none => s.queue }
        let after := before.applyFire h rep.fire
        let taken := { after with
          timer := { s.timer with phase := .inSlot (n + 1) }, held := [], choices := s.choices + 1 }
        let closed := if r.kind = .relay then taken.walk h roll else taken
        (reported = r.cond.fire → after = before)
        ∧ t.zones = closed.zones ∧ (∀ g, t.rec? g = closed.rec? g)
        ∧ (offset.natAbs ≤ s.network.params.guard → t = closed)
        ∧ (r.kind ≠ .relay → t.attention = closed.attention)
        ∧ (s.network.params.guard < offset.natAbs → r.kind ≠ .relay →
            ({ dest := h, msg := .timeCorrection offset } : QueueEntry) ∈ t.queue
            ∧ (∀ m, asks = some m ∨ after.queue ≠ before.queue ∧ m = .rearm →
                ({ dest := h, msg := m } : QueueEntry) ∈ t.queue)
            ∧ (∀ e ∈ s.queue, e.dest ≠ h → e ∈ t.queue)
            ∧ ∀ e ∈ t.queue, e ∈ s.queue
                ∨ e.dest = h ∧ (e.msg = .timeCorrection offset ∨ asks = some e.msg ∨ e ∈ after.queue ∧ e.msg = .rearm))
        ∧ (s.network.params.guard < offset.natAbs → r.kind = .relay →
            s.queue.length + 4 + 3 * ((roll.map RollCall.entries).getD []).length ≤ 24 →
            t.attention = closed.attention
            ∧ (r.link.state ≠ .lost → ({ dest := h, msg := .timeCorrection offset } : QueueEntry) ∈ t.queue)))

/-! ### The network -/

/-- START in HALTED sets the synthesiser seeking lock and keeps the port WORKING; elsewhere it is refused (its WRONG_STATE carries
no position: log 18). The lock makes the network FORMING, begins frame 0, restarts every link block, stale run and timing field
and answers OK; without a lock RADIO_FAULT is set and answered (R177, R93). HALT in FORMING or RUNNING makes the network HALTING
and cancels a countdown; in HALTING and HALTED it only answers OK (R179; between FRAME_END and the end of the frame's steps log
4 says which order of R158, R178 and R179 it takes). NETWORK_FORMED makes it RUNNING and sets FORMED (R178). NETWORK_HALTED
makes it HALTED, stops the timer, empties queue, candidates and history and sets HALTED (R179), after the hyperframe end of
frame 127 (R55, log 5) and the expiries (log 3); that the synthesiser stays as it stands there is the model's choice (log 23).
-/
def Obligations.StartsAndHalts : Prop :=
  (∀ s : State, s.port.state ≠ .working → s.network.state = .halted →
      exec .start s = .next { s with
        network := { s.network with synth := .seeking },
        port := { s.port with
          state := .working,
          discarded := match s.port.state with | .answerReady _ => false | _ => s.port.discarded } })
    ∧ (∀ s : State, s.port.state ≠ .working → s.network.state ≠ .halted →
        exec .start s = .next (s.setPort (s.port.answering 31 (.refuse .wrongState))))
    ∧ (∀ s : State, s.port.state = .working → ∃ t, exec .startLockObtained s = .next t
        ∧ (∀ h, t.rec? h = (s.rec? h).map fun r =>
            { r with
              link := { r.link with state := .unheard, lqf := none, missRun := 0, history := [] },
              timing := none,
              route := r.route.map fun x => { x with staleRun := 0 } })
        ∧ t = { s with
            records := t.records, timer := { frame := 0, phase := .beaconDue },
            network := { s.network with state := .forming, formingCount := 0, synth := .locked },
            port := { s.port with
              state := .answerReady
                { kind := 31, result := .ok, discarded := s.port.discarded, adjusted := [], payload := .none } } })
    ∧ (∀ s : State, s.port.state = .working →
        exec .startLockTimeout s = .next { s with
          network := { s.network with synth := .off }, attention := s.attention.raise .radioFault,
          port := { s.port with
            state := .answerReady
              { kind := 31, result := .radioFault, discarded := s.port.discarded, adjusted := [], payload := .none } } })
    ∧ (∀ s : State, s.port.state ≠ .working → (s.network.state = .forming ∨ s.network.state = .running) →
      exec .halt s = .next { s with
        network := { s.network with state := .halting },
        monitor := { s.monitor with
          persistence := match s.timer.phase with
            | .frameEnd due =>
              if due.autoTest = true ∧ s.network.params.agility = true ∧ 1 < s.network.params.plan.length
                ∧ s.network.state = .running ∧ 40 ≤ s.monitor.persistence ∧ s.monitor.changeover = none then 0
              else s.monitor.persistence
            | _ => s.monitor.persistence,
          changeover := none },
        timer := { s.timer with
          phase := match s.timer.phase with
            | .frameEnd due =>
              .frameEnd (if due.formed = true ∨ s.monitor.changeover.map Changeover.shownLast = some true then
                { due with formed := false, halted := true } else due)
            | p => p },
        port := s.port.answering 32 { result := .ok, adjusted := [], payload := .none } })
    ∧ (∀ s : State, s.port.state ≠ .working → (s.network.state = .halted ∨ s.network.state = .halting) →
        exec .halt s = .next (s.setPort (s.port.answering 32 { result := .ok, adjusted := [], payload := .none })))
    ∧ (∀ (s : State) (due : FrameEndDue), s.timer.phase = .frameEnd due → due.formed = true →
        exec .networkFormed s = .next { s with
          network := { s.network with state := .running },
          timer := { s.timer with phase := .frameEnd { due with formed := false } },
          attention := s.attention.raise .formed })
    ∧ (∀ (s : State) (due : FrameEndDue), s.timer.phase = .frameEnd due → due.hyper = true →
        exec .networkHalted s = .next s)
    ∧ ∀ (s : State) (due : FrameEndDue), s.timer.phase = .frameEnd due → due.halted = true → due.hyper = false →
        (∀ e ∈ s.zones, ∀ f v, e.2.state ≠ .waiting f v 0) → (∀ e ∈ s.records, e.2.lifecycle ≠ .retiring 0) →
        exec .networkHalted s = .next { s with
          network := { s.network with state := .halted },
          timer := { s.timer with phase := .stopped },
          queue := [],
          commissioning := { s.commissioning with window := none, candidates := [] },
          monitor := { s.monitor with history := [], interfered := false, persistence := 0 },
          attention := s.attention.raise .halted }

/-- The walk of a roll-call at the close of the cell, current or next, of a direct relay x0 whose check-in was accepted, LOST
relays and FORMING networks included (R104). An outcome heard or missed makes of a link block what Table 4-5 says; a miss is
evaluated in RUNNING and HALTING alone. A LOST relay that recovers first returns every ACTIVE record below it to UNHEARD (R112;
those below a PENDING relay too, which is log 15). A child of x0, or of a relay child that is heard, whose first entry is
accepted and heard is made ACTIVE, judged by its margin and its report is taken in (R105, R107); below a relay that stays LOST
an UNREACHABLE child is not judged and a PENDING one becomes UNREACHABLE (R74, R113). Without one it is missed exactly when its
relay is current or was stale M times before, unless it is PENDING or UNREACHABLE (R108); a RETIRING child that is lost so is
vacated. Where a LOST second-level relay recovers by its entry, the children whose own entries stand before it are not judged
and return to UNHEARD, the others are judged from there (R107, R112). The reporting relay's version and stale run follow (R106).
The children of a relay child that is not heard stay, but become UNREACHABLE, or are vacated where RETIRING, if it is lost by
that (R109, R111). x0's record otherwise: LaneSlotClosesHeard. Entry acceptance as such: RelayJudgedByRollCall. Slot 0 has no
close of its own (log 6). The counter choices is the model's own (log 8). -/
def Obligations.RollCallWalked : Prop :=
  let heardLink := fun (p : Params) (b : LinkBlock) (margin : Nat) =>
    let lqf : Nat := match b.lqf with
      | none => 16 * margin
      | some q => if 16 * margin < q then q - (q - 16 * margin + 7) / 8 else q + (16 * margin - q) / 8
    let history := (Result.heard :: b.history).take 8
    let back := 16 * (p.floor + p.hysteresis)
    let state : LinkState := match b.state with
      | .unheard | .linked => if 16 * p.floor ≤ lqf then .linked else .marginal
      | .marginal => if back ≤ lqf then .linked else .marginal
      | .lost =>
        if 6 ≤ (history.filter (· = .heard)).length then (if back ≤ lqf then .linked else .marginal) else .lost
      | .unreachable => .unreachable
    { b with state := state, lqf := some lqf, missRun := 0, history := history }
  let missedLink := fun (p : Params) (b : LinkBlock) =>
    let lqf := b.lqf.map fun q => q - (q + 7) / 8
    let run := if b.missRun < 255 then b.missRun + 1 else 255
    let full := 65535 ≤ b.live
    let state : LinkState :=
      if b.state = .unreachable then .unreachable
      else if b.state = .lost ∨ p.missLimit ≤ run then .lost
      else if b.state = .linked ∧ ∀ q, lqf = some q → q < 16 * p.floor then .marginal
      else b.state
    { b with
      state := state, lqf := lqf, missRun := run, history := (.missed :: b.history).take 8,
      live := if full then b.live else b.live + 1, saturated := b.saturated || decide full }
  let shown := fun (route : Route) (v : Option Version) =>
    ({ version := route.version, reported := if v.isSome then v else route.reported,
       staleRun := if v = some route.version then 0 else if route.staleRun < 255 then route.staleRun + 1 else 255 } : Route)
  let back := fun q : Record =>
    if q.isActive = true ∧ q.link.state = .unreachable then
      { q with link := { q.link with state := .unheard, missRun := 0 } }
    else q
  (∀ (p : Params) (b : LinkBlock) (margin : Nat),
      b.evaluated p .heard margin = heardLink p b margin ∧ b.evaluated p .missed margin = missedLink p b)
    ∧ ∀ (s : State) (n x0 : Nat) (r : Record) (route : Route) (a : Alloc) (rep : Report) (roll : Option RollCall)
        (level offset : Int), MapLegal s → TreeLegal s → ReachLegal s →
        (s.timer.phase = .inSlot n ∨ n = 1 ∧ s.timer.phase = .inSlot 0) → 1 ≤ n → n ≤ 14 → s.rec? x0 = some r →
        r.kind = .relay → r.route = some route → (r.current = some a ∨ r.next = some a) → a.lane = n →
        s.timer.frame % a.cadence = a.phase →
        s.held = [{ slot := n, frame := .checkIn x0 rep roll, level := level, offset := offset, senderVacated := false }] →
        let params := s.network.params
        let entries := (roll.map RollCall.entries).getD []
        let place := fun c : Nat => entries.findIdx (·.child == c)
        let heardEntry := fun (x c : Nat) (e : RollEntry) => entries.find? (·.child == c) = some e ∧ e.relay = x
          ∧ e.heard = true ∧ e.margin ≤ 63 ∧ e.fire ≤ 2 ∧ e.faults ≤ 15
        let version := fun e : RollEntry => if e.hasVersion then some e.childVersion else none
        let woken := fun l : Lifecycle => match l with | .pending => Lifecycle.active | l => l
        let x0Link := heardLink params r.link (min 63 (max 0 (level + 112)).toNat)
        let down := decide (x0Link.state = .lost)
        let returned := fun q : Record => if r.link.state = .lost ∧ down = false then back q else q
        let handed := fun (broken : Bool) (q : Record) (margin : Nat) =>
          if broken = true ∧ (q.isPending = true ∨ q.link.state = .unreachable) then { q.link with state := .unreachable }
          else heardLink params q.link margin
        let taken := fun (q new : Record) (e : RollEntry) =>
          new.cond.lastSeq = some e.seq ∧ new.cond.faults = BitVec.ofNat 4 e.faults
            ∧ new.cond.reportedVersion = some e.version
            ∧ new.cond.battery = (if e.battery = 255 then q.cond.battery else some (min e.battery 100))
            ∧ new.cond.latched = (q.cond.latched || decide (e.fire = 2 ∧ q.cond.fire ≠ .alarm))
            ∧ ((∀ z, s.zone? q.zone = some z → z.mode ≠ .doubleKnock) →
                new.cond.fire = if e.fire = 2 then .alarm
                  else if e.fire = 1 ∧ q.kind ≠ .callPoint then .prealarm else .none)
        let spared := fun (v : Option Version) (x : Route) (q : Record) =>
          q.isPending = true ∨ v ≠ some x.version ∧ x.staleRun < params.missLimit ∨ q.link.state = .unreachable
            ∨ s.network.state ≠ .running ∧ s.network.state ≠ .halting
        let missed := fun (q : Record) (after : Option Record) =>
          after = if q.isRetiring = true ∧ (missedLink params q.link).state = .lost then none
            else some { q with link := missedLink params q.link }
        ∃ t, exec .laneSlotClose s = .next t
          ∧ (∃ new, t.rec? x0 = some new ∧ new.lifecycle = woken r.lifecycle ∧ new.link = x0Link
              ∧ new.route = some (shown route (roll.map RollCall.version)) ∧ new.cond.lastSeq = some rep.seq
              ∧ new.cond.faults = rep.faults ∧ new.cond.reportedVersion = some rep.version)
          ∧ (∀ c q e, s.rec? c = some q → q.settings.parent = x0 → heardEntry x0 c e →
              ∃ new, t.rec? c = some new ∧ taken q new e
                ∧ new = { q with
                    lifecycle := woken q.lifecycle, link := handed down (returned q) e.margin, cond := new.cond,
                    route := if q.kind = .relay then q.route.map (shown · (version e)) else q.route })
          ∧ (∀ c q, s.rec? c = some q → q.settings.parent = x0 → (∀ e, ¬ heardEntry x0 c e) →
              let spare := spared (roll.map RollCall.version) route (returned q)
              (spare → t.rec? c = some (returned q)) ∧ (¬ spare → missed (returned q) (t.rec? c)))
          ∧ (∀ y f qy yr g q, s.rec? y = some qy → qy.settings.parent = x0 → qy.kind = .relay → heardEntry x0 y f →
              qy.route = some yr → s.rec? g = some q → q.settings.parent = y →
              let judged := heardLink params qy.link f.margin
              let recovers := qy.link.state = .lost ∧ judged.state ≠ .lost
              let dropped := down = true ∧ qy.isPending = true ∧ q.isRetiring = true
              (dropped → t.rec? g = none)
              ∧ (¬ dropped → ∀ e, heardEntry y g e →
                  ∃ new, t.rec? g = some new ∧ taken q new e
                    ∧ new = { q with
                        lifecycle := woken q.lifecycle, cond := new.cond,
                        link :=
                          if recovers ∧ place g < place y ∧ q.isRetiring = false then
                            { q.link with state := .unheard, missRun := 0 }
                          else if recovers then handed false (back q) e.margin
                          else handed (down || decide (judged.state = .lost)) (returned q) e.margin })
              ∧ (¬ dropped → (∀ e, ¬ heardEntry y g e) →
                  let q1 := if recovers then back q else returned q
                  let early := recovers ∧ q.link.state = .unreachable
                    ∧ ∃ e, entries.find? (·.child == g) = some e ∧ e.relay = y ∧ e.heard = false ∧ place g < place y
                  let spare := spared (version f) yr q1 ∨ early
                  (spare → t.rec? g = some q1) ∧ (¬ spare → missed q1 (t.rec? g))))
          ∧ (∀ c q g k, s.rec? c = some q → q.settings.parent = x0 → (∀ e, ¬ heardEntry x0 c e) → s.rec? g = some k →
              k.settings.parent = c →
              let lost := (returned q).link.state ≠ .lost ∧ ∃ x, t.rec? c = some x ∧ x.link.state = .lost
              (¬ lost → t.rec? g = some (returned k))
              ∧ (lost → t.rec? g =
                  if k.isRetiring = true then none
                  else if k.isPending = true then some k
                  else some { returned k with link := { (returned k).link with state := .unreachable } }))
          ∧ (∀ g, g ≠ x0 → (∀ q, s.rec? g = some q → ¬ s.Below x0 q) → t.rec? g = s.rec? g)
          ∧ t = { s with
              records := t.records, zones := t.zones, timer := { s.timer with phase := .inSlot (n + 1) }, held := [],
              queue := t.queue, attention := t.attention, choices := s.choices + 1 }

/-- SET_PARAMETERS whose fields pass their tests: every present field takes effect, the floor, hysteresis, threshold and guard
held or clamped as Table 10-6 says and listed once in the answer, and a new plan sets the current index to 0 (R180, R152). In
which order the list stands is the model's choice, and not stated here (log 38). -/
def Obligations.SetParametersApplies : Prop :=
  ∀ (s : State) (n : Option Nat) (pl : Option (List Nat)) (m c fl hy : Option Nat) (th : Option Int) (ag gd sm : Option Nat),
    s.port.state ≠ .working → (n.isSome = true ∨ pl.isSome = true → s.network.state = .halted) →
    (∀ v, n = some v → 1 ≤ v ∧ v ≤ 65534) →
    (∀ l, pl = some l → 1 ≤ l.length ∧ l.length ≤ 4 ∧ (∀ x ∈ l, x ≤ 15) ∧ l.Nodup) →
    (∀ v, m = some v → 2 ≤ v ∧ v ≤ 8) → (∀ v, c = some v → 32 ≤ v ∧ v ≤ 480) → (∀ v, ag = some v → v < 2) →
    (∀ v, sm = some v → v < 2) →
    let old := s.network.params
    (m.isSome = true ∨ c.isSome = true →
      ∀ e ∈ s.records, ∀ P ∈ e.2.supervisedCadences, P * m.getD old.missLimit ≤ c.getD old.ceiling) →
    let new : Params :=
      { networkId := n.getD old.networkId, plan := pl.getD old.plan, missLimit := m.getD old.missLimit,
        ceiling := c.getD old.ceiling,
        floor := (match fl with | none => old.floor | some v => if 40 < v then 40 else v),
        hysteresis := (match hy with
          | none => old.hysteresis
          | some v => if v < 2 then old.hysteresis else if 12 < v then 12 else v),
        threshold := (match th with | none => old.threshold | some v => if v < -100 then -100 else if -60 < v then -60 else v),
        agility := (match ag with | none => old.agility | some v => v == 1),
        guard := (match gd with | none => old.guard | some v => if v < 500 then 500 else if 3000 < v then 3000 else v),
        snapshotAuto := (match sm with | none => old.snapshotAuto | some v => v == 0) }
    ∃ adj : List (Nat × Adjust),
      exec (.setParameters n pl m c fl hy th ag gd sm) s = .next { s with
        network := { s.network with params := new },
        monitor := { s.monitor with index := if pl.isSome then 0 else s.monitor.index },
        port := s.port.answering 33
          { result := if adj = [] then .ok else .adjusted, adjusted := adj, payload := .params new } }
      ∧ (∀ x, x ∈ adj ↔
          x = (5, .clamped) ∧ (∃ v, fl = some v ∧ 40 < v)
          ∨ x = (6, .held) ∧ (∃ v, hy = some v ∧ v < 2)
          ∨ x = (6, .clamped) ∧ (∃ v, hy = some v ∧ 12 < v)
          ∨ x = (7, .clamped) ∧ (∃ v, th = some v ∧ (v < -100 ∨ -60 < v))
          ∨ x = (9, .clamped) ∧ ∃ v, gd = some v ∧ (v < 500 ∨ 3000 < v))
      ∧ (adj.map Prod.fst).Nodup

/-- SET_PARAMETERS refused, the fields tested in order of position (R180 step 1, R152): the network identity and the plan outside
HALTED, and a network identity, plan, miss limit, ceiling, agility or snapshot mode that is out of range; and then a miss limit,
a ceiling or both under which some record's cadence breaks the supervision law, answered LIMIT_VIOLATION with the lowest such
handle (R94). -/
def Obligations.SetParametersRefuses : Prop :=
  let identityOk := fun (s : State) (n : Option Nat) => ∀ v, n = some v → s.network.state = .halted ∧ 1 ≤ v ∧ v ≤ 65534
  let channels := fun l : List Nat => 1 ≤ l.length ∧ l.length ≤ 4 ∧ (∀ x ∈ l, x ≤ 15) ∧ l.Nodup
  let planOk := fun (s : State) (pl : Option (List Nat)) => ∀ l, pl = some l → s.network.state = .halted ∧ channels l
  let within := fun (lo hi : Nat) (f : Option Nat) => ∀ v, f = some v → lo ≤ v ∧ v ≤ hi
  let refused := fun (s : State) (c : ResultCode) (n : Nat) =>
    (.next (s.setPort (s.port.answering 33 (.refuseAt c n))) : Step)
  ∀ (s : State) (n : Option Nat) (pl : Option (List Nat)) (m c fl hy : Option Nat) (th : Option Int) (ag gd sm : Option Nat),
    s.port.state ≠ .working →
    let run := exec (.setParameters n pl m c fl hy th ag gd sm) s
    (n.isSome = true → s.network.state ≠ .halted → run = refused s .wrongState 1)
    ∧ (∀ v, n = some v → s.network.state = .halted → (v = 0 ∨ 65534 < v) → run = refused s .outOfRange 1)
    ∧ (identityOk s n → pl.isSome = true → s.network.state ≠ .halted → run = refused s .wrongState 2)
    ∧ (identityOk s n → ∀ l, pl = some l → s.network.state = .halted → ¬ channels l → run = refused s .outOfRange 2)
    ∧ (identityOk s n → planOk s pl →
        (¬ within 2 8 m → run = refused s .outOfRange 3)
        ∧ (within 2 8 m → ¬ within 32 480 c → run = refused s .outOfRange 4)
        ∧ (within 2 8 m → within 32 480 c → ¬ within 0 1 ag → run = refused s .outOfRange 8)
        ∧ (within 2 8 m → within 32 480 c → within 0 1 ag → ¬ within 0 1 sm → run = refused s .outOfRange 10)
        ∧ (within 2 8 m → within 32 480 c → within 0 1 ag → within 0 1 sm → TablesLegal s →
            (m.isSome = true ∨ c.isSome = true) →
            let M := m.getD s.network.params.missLimit
            let C := c.getD s.network.params.ceiling
            ∀ (h P : Nat) (r : Record), s.rec? h = some r → P ∈ r.supervisedCadences → C < P * M →
              (∀ g q, g < h → s.rec? g = some q → ∀ Q ∈ q.supervisedCadences, Q * M ≤ C) →
              run = .next (s.setPort (s.port.answering 33
                { result := .limitViolation, adjusted := [], payload := .offender h }))))

/-! ### The frame -/

/-- BEACON, at the start of frame 0 after a START and of the next frame when the steps of a frame end have been taken: slot 0
opens, the beacon goes out on the current channel with the fields of Table 7-4, a countdown moves on, and in FORMING the forming
beacon count rises by one (R148, R149, R157, R178). -/
def Obligations.BeaconOpensTheFrame : Prop :=
  let opened := fun (s : State) (f : Nat) => { s with
    air := some
      { channel := s.network.params.plan.getD s.monitor.index 0, networkId := s.network.params.networkId,
        frame := .beacon
          { frame := f, running := decide (s.network.state ≠ .forming),
            countdown := (s.monitor.changeover.map Changeover.countdown).getD 0,
            target := (s.monitor.changeover.map Changeover.target).getD s.monitor.index,
            commissioning := s.commissioning.window.isSome } },
    timer := { frame := f, phase := .inSlot 0 },
    monitor := { s.monitor with
      changeover := s.monitor.changeover.map fun c =>
        if 2 ≤ c.countdown then { c with countdown := c.countdown - 1 } else { c with shownLast := true } },
    network := { s.network with
      formingCount := if s.network.state = .forming then s.network.formingCount + 1 else s.network.formingCount } }
  (∀ s : State, s.timer.phase = .beaconDue → exec .beacon s = .next (opened s s.timer.frame))
    ∧ ∀ (s : State) (due : FrameEndDue), s.timer.phase = .frameEnd due → due.formed = false → due.halted = false →
        due.hyper = false → (due.autoTest = false ∨ s.autoConditions = false) → (∀ e ∈ s.zones, ∀ f v, e.2.state ≠ .waiting f v 0) →
        (∀ e ∈ s.records, e.2.lifecycle ≠ .retiring 0) → s.commissioning.window ≠ some 0 →
        (∀ c, s.monitor.changeover = some c → c.shownLast = false) →
        exec .beacon s = .next (opened s ((s.timer.frame + 1) % 128))

/-- UPLINK_FRAME_RECEIVED in the slot in which the frame's start lies, or in the slot n whose window it lies in: a frame whose
start lies in the window of slot n and that passes R118 to R120 is held for that slot's close, and a check-in of the next
allocation's owner with the current settings version confirms the move; one that fails a check is discarded (R117 to R120, R68).
That a frame may be held while the frame of the slot in progress waits for its close is log 7. Slot 0 has no close of its own: a
frame whose start lies in slot 1 finds the timer in slot 0 or 1 and leaves it in slot 1 (log 6). -/
def Obligations.UplinkFrameChecked : Prop :=
  let inWindow := fun (s : State) (instant n : Nat) =>
    (s.timer.phase = .inSlot (instant / 25000) ∨ s.timer.phase = .inSlot n ∨ n = 1 ∧ s.timer.phase = .inSlot 0)
      ∧ 1 ≤ n ∧ n ≤ 17 ∧ 25000 * n ≤ instant + 4000 ∧ instant ≤ 25000 * n + 4000
  let reached := fun (s : State) (instant : Nat) =>
    if s.timer.phase = .inSlot 0 ∧ instant / 25000 = 1 then { s with timer := { s.timer with phase := .inSlot 1 } } else s
  let kept := fun (s : State) (instant n : Nat) (level : Int) (f : Uplink) => s.held ++
    [{ slot := n, frame := f, level := level, offset := (instant : Int) - 25000 * (n : Int), senderVacated := false }]
  (∀ (s : State) (instant n h : Nat) (level : Int) (bytes : List Byte) (rep : Report) (roll : Option RollCall) (r : Record)
      (a : Alloc), MapLegal s → inWindow s instant n → n ≤ 14 →
      parseUplink s.network.params.networkId bytes = some (.checkIn h rep roll) → (∀ x ∈ s.held, x.slot ≠ n) →
      s.rec? h = some r → r.current = some a → a.lane = n → s.timer.frame % a.cadence = a.phase →
      exec (.uplinkFrameReceived instant level bytes) s =
        .next { reached s instant with held := kept s instant n level (.checkIn h rep roll) })
    ∧ (∀ (s : State) (instant n h : Nat) (level : Int) (bytes : List Byte) (rep : Report) (roll : Option RollCall)
        (r : Record) (a : Alloc), MapLegal s → inWindow s instant n → n ≤ 14 →
        parseUplink s.network.params.networkId bytes = some (.checkIn h rep roll) → (∀ x ∈ s.held, x.slot ≠ n) →
        s.rec? h = some r → r.next = some a → a.lane = n → s.timer.frame % a.cadence = a.phase →
        exec (.uplinkFrameReceived instant level bytes) s = .next { reached s instant with
          held := kept s instant n level (.checkIn h rep roll),
          records := if rep.version = r.version then
              Tbl.set s.records h { r with current := some a, next := none }
            else s.records })
    ∧ (∀ (s : State) (instant n h : Nat) (level : Int) (bytes : List Byte) (rep : Report) (roll : Option RollCall),
        TablesLegal s → inWindow s instant n → n ≤ 14 →
        parseUplink s.network.params.networkId bytes = some (.checkIn h rep roll) →
        (∀ r a, s.rec? h = some r → r.current = some a ∨ r.next = some a → a.lane = n →
          s.timer.frame % a.cadence ≠ a.phase) →
        exec (.uplinkFrameReceived instant level bytes) s = .next (reached s instant))
    ∧ (∀ (s : State) (instant n : Nat) (level : Int) (bytes : List Byte) (f : Uplink), inWindow s instant n → 15 ≤ n →
        parseUplink s.network.params.networkId bytes = some f → (∀ h rep roll, f ≠ .checkIn h rep roll) →
        (∀ x ∈ s.held, x.slot ≠ n) →
        exec (.uplinkFrameReceived instant level bytes) s = .next { reached s instant with held := kept s instant n level f })
    ∧ (∀ (s : State) (instant n : Nat) (level : Int) (bytes : List Byte), inWindow s instant n →
        (parseUplink s.network.params.networkId bytes = none ∨ (∃ x ∈ s.held, x.slot = n)
          ∨ ∃ f, parseUplink s.network.params.networkId bytes = some f
              ∧ ((∃ h rep roll, f = .checkIn h rep roll) ↔ 15 ≤ n)) →
        exec (.uplinkFrameReceived instant level bytes) s = .next (reached s instant))
    ∧ ∀ (s : State) (instant : Nat) (level : Int) (bytes : List Byte),
        (s.timer.phase = .inSlot (instant / 25000) ∨ s.timer.phase = .inSlot 0 ∧ instant / 25000 = 1) →
        (∀ n, ¬ inWindow s instant n) → exec (.uplinkFrameReceived instant level bytes) s = .next (reached s instant)

/-- The close of a lane slot in which no check-in was accepted: a cell that no current allocation owns, and an owner that is
PENDING, UNREACHABLE or in a FORMING network, give no evaluated outcome; else the miss of the ACTIVE or RETIRING owner is
evaluated, and a loss posts LINK, purges the messages of an ACTIVE owner and vacates a RETIRING one (R66, R73 to R87, R96, R24).
What the loss of a relay carries to its children: LossAndRecoveryReachTheChildren. Lane 1 closes from slot 0 too, which has no
close of its own (log 6). -/
def Obligations.LaneSlotClosesUnheard : Prop :=
  (∀ (s : State) (n : Nat), (s.timer.phase = .inSlot n ∨ n = 1 ∧ s.timer.phase = .inSlot 0) → 1 ≤ n → n ≤ 14 →
      (∀ x ∈ s.held, x.slot ≠ n) → MapLegal s →
      (∀ h r a, s.rec? h = some r → r.current = some a → a.lane = n → s.timer.frame % a.cadence = a.phase →
        r.isPending = true ∨ r.link.state = .unreachable ∨ s.network.state = .forming) →
      exec .laneSlotClose s = .next { s with timer := { s.timer with phase := .inSlot (n + 1) } })
    ∧ ∀ (s : State) (n h : Nat) (r : Record) (a : Alloc), MapLegal s →
        (s.timer.phase = .inSlot n ∨ n = 1 ∧ s.timer.phase = .inSlot 0) → 1 ≤ n → n ≤ 14 →
        (∀ x ∈ s.held, x.slot ≠ n) → s.rec? h = some r → r.isPending = false → r.link.state ≠ .unreachable →
        (s.network.state = .running ∨ s.network.state = .halting) →
        r.current = some a → a.lane = n → s.timer.frame % a.cadence = a.phase →
        let lqf := r.link.lqf.map fun q => q - (q + 7) / 8
        let run := if r.link.missRun < 255 then r.link.missRun + 1 else 255
        let state : LinkState :=
          if r.link.state = .lost ∨ s.network.params.missLimit ≤ run then .lost
          else if r.link.state = .linked ∧ ∀ q, lqf = some q → q < 16 * s.network.params.floor then .marginal
          else r.link.state
        let full := 65535 ≤ r.link.live
        let flagged := if full then s.attention.raise .tallySaturated else s.attention
        let judged := { r with
          link := { r.link with
            state := state, lqf := lqf, missRun := run, history := (.missed :: r.link.history).take 8,
            live := if full then r.link.live else r.link.live + 1,
            saturated := r.link.saturated || decide full } }
        ((state = .lost → r.link.state = .lost ∨ r.isActive = true ∧ r.kind ≠ .relay) →
          exec .laneSlotClose s = .next { s with
            records := Tbl.set s.records h judged,
            timer := { s.timer with phase := .inSlot (n + 1) },
            attention := if state = r.link.state then flagged else flagged.post (.record h) .linkOnset false,
            queue := if state = .lost ∧ r.link.state ≠ .lost then s.queue.filter fun e => e.dest != h else s.queue })
        ∧ (state = .lost → r.link.state ≠ .lost → r.isRetiring = true → s.children h = [] →
          ∃ t, exec .laneSlotClose s = .next t ∧ t.port = s.port
            ∧ Vacated h r { s with
                timer := { s.timer with phase := .inSlot (n + 1) }, attention := flagged.post (.record h) .linkOnset false } t)

/-- The close of a lane slot in which the check-in of the cell's owner was accepted, be it a cell of its current or, with the
move not confirmed, of its next allocation (R66, R68): a heard outcome makes a PENDING record ACTIVE, a RETIRING one stays
so, and it is evaluated, the report is taken in and the arrival offset is stored (R66, R78, R32 to R35, R128, R160). No other
record changes, but for a relay those that its recovery and its roll-call reach (RollCallWalked), and its route fields. What it
posts, requests and makes of its zone: HeardReportPostsAndRequests. Lane 1 closes from slot 0 too (log 6). The counter choices
is the model's own: the place of the timing measurement is drawn from it (log 8). -/
def Obligations.LaneSlotClosesHeard : Prop :=
  ∀ (s : State) (n h : Nat) (r : Record) (a : Alloc) (rep : Report) (roll : Option RollCall)
      (level offset : Int), MapLegal s →
    (s.timer.phase = .inSlot n ∨ n = 1 ∧ s.timer.phase = .inSlot 0) → 1 ≤ n → n ≤ 14 → s.rec? h = some r →
    r.link.state ≠ .unreachable → (r.current = some a ∨ r.next = some a) → a.lane = n →
    s.timer.frame % a.cadence = a.phase →
    s.held = [{ slot := n, frame := .checkIn h rep roll, level := level, offset := offset, senderVacated := false }] →
    let margin := min 63 (max 0 (level + 112)).toNat
    let lqf : Nat := match r.link.lqf with
      | none => 16 * margin
      | some q => if 16 * margin < q then q - (q - 16 * margin + 7) / 8 else q + (16 * margin - q) / 8
    let history := (Result.heard :: r.link.history).take 8
    let floor := 16 * s.network.params.floor
    let back := 16 * (s.network.params.floor + s.network.params.hysteresis)
    let state : LinkState := match r.link.state with
      | .unheard | .linked => if floor ≤ lqf then .linked else .marginal
      | .marginal => if back ≤ lqf then .linked else .marginal
      | _ => if 6 ≤ (history.filter (· = .heard)).length then (if back ≤ lqf then .linked else .marginal) else .lost
    ∃ t new, exec .laneSlotClose s = .next t ∧ t.rec? h = some new
      ∧ new = { r with
          lifecycle := (match r.lifecycle with | .retiring g => .retiring g | _ => .active),
          link := { r.link with state := state, lqf := some lqf, missRun := 0, history := history },
          cond := new.cond, route := new.route,
          timing := some
            { last := offset,
              offsetMin := min ((r.timing.map Timing.offsetMin).getD offset) offset,
              offsetMax := max ((r.timing.map Timing.offsetMax).getD offset) offset } }
      ∧ new.cond.lastSeq = some rep.seq ∧ new.cond.faults = rep.faults ∧ new.cond.reportedVersion = some rep.version
      ∧ new.cond.battery = (if rep.battery = 255 then r.cond.battery else some (min rep.battery 100))
      ∧ new.cond.latched = (r.cond.latched || decide (rep.fire = .alarm ∧ r.cond.fire ≠ .alarm))
      ∧ ((∀ z, s.zone? r.zone = some z → z.mode ≠ .doubleKnock) →
          new.cond.fire = if r.kind = .callPoint ∧ rep.fire = .prealarm then .none else rep.fire)
      ∧ (r.kind ≠ .relay → new.route = r.route ∧ ∀ g, g ≠ h → t.rec? g = s.rec? g)
      ∧ t = { s with
          records := t.records, zones := t.zones, timer := { s.timer with phase := .inSlot (n + 1) }, held := [],
          queue := t.queue, attention := t.attention, choices := s.choices + 1 }

/-- OPEN_SLOT_CLOSE: without an accepted frame only the timer moves; LEAVING of a RETIRING record vacates it; a JOIN of a PENDING
record through its parent requests a JOIN_GRANT and sets its marker, through another relay does nothing; a JOIN of an ACTIVE
record requests the grant where the queue admits it and sets the marker, and is ignored while it is UNREACHABLE; an unknown JOIN
makes a candidate or refreshes the one it has while the window is open and a filter matches, and is ignored with the window
closed, no filter matching, or the table full (R122 to R126, R129, R133). -/
def Obligations.OpenSlotCloses : Prop :=
  let moved := fun (s : State) (n : Nat) => { s with
    timer := { s.timer with phase := if n = 17 then .downlinkDue else .inSlot (n + 1) },
    held := s.held.filter fun x => x.slot != n }
  let granted := fun (s : State) (n h : Nat) =>
    let request := insertRequest s.queue { dest := h, msg := .joinGrant }
    { moved s n with
      queue := request.1, attention := if request.2 then s.attention.raise .queueOverflow else s.attention }
  let closing := fun (s : State) (n : Nat) (f : Uplink) (level : Int) => s.timer.phase = .inSlot n ∧ 15 ≤ n ∧ n ≤ 17
    ∧ ∃ x pre post, s.held = pre ++ x :: post ∧ (∀ y ∈ pre, y.slot ≠ n) ∧ x.slot = n ∧ x.frame = f ∧ x.level = level
  (∀ (s : State) (n : Nat), s.timer.phase = .inSlot n → 15 ≤ n → n ≤ 17 → (∀ x ∈ s.held, x.slot ≠ n) →
      exec .openSlotClose s = .next (moved s n))
    ∧ (∀ (s : State) (n h g : Nat) (level : Int) (r : Record), closing s n (.leaving h) level → s.rec? h = some r →
        r.lifecycle = .retiring g →
        ∃ t, exec .openSlotClose s = .next t ∧ Vacated h r (moved s n) t ∧ t.port = s.port)
    ∧ (∀ (s : State) (n h : Nat) (level : Int), closing s n (.leaving h) level →
        (∀ r g, s.rec? h = some r → r.lifecycle ≠ .retiring g) → exec .openSlotClose s = .next (moved s n))
    ∧ (∀ (s : State) (n h : Nat) (level : Int) (k : Kind) (r : Record), RegistryLegal s →
        closing s n (.join r.serial k r.settings.parent) level → s.rec? h = some r → r.isPending = true →
        r.link.state ≠ .unreachable →
        ∃ t, exec .openSlotClose s = .next t ∧ (∀ g, g ∈ t.markers ↔ g = h ∨ g ∈ s.markers)
          ∧ (s.queue.length < 24 → ({ dest := h, msg := .joinGrant } : QueueEntry) ∈ t.queue ∧ ∀ e ∈ s.queue, e ∈ t.queue)
          ∧ t = { granted s n h with markers := t.markers })
    ∧ (∀ (s : State) (n h via : Nat) (level : Int) (k : Kind) (r : Record), RegistryLegal s →
        closing s n (.join r.serial k via) level → s.rec? h = some r →
        (r.isPending = true ∧ via ≠ r.settings.parent ∨ r.isRetiring = true) →
        exec .openSlotClose s = .next (moved s n))
    ∧ (∀ (s : State) (n h via : Nat) (level : Int) (k : Kind) (r : Record), RegistryLegal s →
        closing s n (.join r.serial k via) level → s.rec? h = some r → r.isActive = true →
        (r.link.state = .unreachable → exec .openSlotClose s = .next (moved s n))
        ∧ (r.link.state ≠ .unreachable →
            ∃ t, exec .openSlotClose s = .next t ∧ (∀ g, g ∈ t.markers ↔ g = h ∨ g ∈ s.markers)
              ∧ t = { (if s.admits h .joinGrant then granted s n h else moved s n) with markers := t.markers }))
    ∧ ∀ (s : State) (n via : Nat) (level : Int) (k : Kind) (serial : Serial), closing s n (.join serial k via) level →
        (∀ e ∈ s.records, e.2.serial ≠ serial) →
        let margin := min 63 (max 0 (level + 112)).toNat
        let takes := fun f : Filter => (f = s.commissioning.filterA ∨ f = s.commissioning.filterB) ∧ f.enabled = true
          ∧ f.length ≤ 40 ∧ ∀ i < f.length, f.value.getLsbD (39 - i) = serial.getLsbD (39 - i)
        (∀ f, takes f → s.commissioning.window.isSome = true → (∀ c ∈ s.commissioning.candidates, c.serial ≠ serial) →
          s.commissioning.candidates.length < 8 →
          exec .openSlotClose s = .next { moved s n with
            commissioning := { s.commissioning with
              candidates := s.commissioning.candidates ++
                [{ serial := serial, kind := k, via := via, margin := margin, attempts := 1, frame := s.timer.frame }] },
            attention := s.attention.raise .candidate })
        ∧ (∀ f pre post c, takes f → s.commissioning.window.isSome = true →
          s.commissioning.candidates = pre ++ c :: post → c.serial = serial → (∀ x ∈ pre ++ post, x.serial ≠ serial) →
          exec .openSlotClose s = .next { moved s n with
            commissioning := { s.commissioning with
              candidates := pre ++
                { c with attempts := if c.attempts < 255 then c.attempts + 1 else 255, margin := margin,
                         frame := s.timer.frame } :: post } })
        ∧ ((s.commissioning.window = none
              ∨ (∀ c ∈ s.commissioning.candidates, c.serial ≠ serial) ∧ 8 ≤ s.commissioning.candidates.length
              ∨ s.commissioning.filterA.length ≤ 40 ∧ s.commissioning.filterB.length ≤ 40 ∧ ∀ f, ¬ takes f) →
          exec .openSlotClose s = .next (moved s n))

/-- An ALARM of an enabled direct detector in a SINGLE zone, with a new sequence and the onset of ALARM, at the close of its open
slot: the acknowledgement is requested, the latch and the sequence are stored, the zone goes to FIRE, FIRE and ZONE onsets are
posted urgent and the marker is set (R36, R38, R45, R49, R122). A repeat requests the acknowledgement again and changes nothing
of the condition block, a frame with fire state NONE is taken in for no part, both set the marker and are measured; one whose
origin is VACANT does nothing (R36, R122, R123, R160). Every new frame, PREALARM or ALARM, of any non-vacant record stores its
sequence, requests the acknowledgement and applies its fire state: State.applyFire (R36 to R38; ZoneWindowAndOnsetDecisions). -/
def Obligations.AlarmFrameRaisesFire : Prop :=
  (∀ (s : State) (n h via seq : Nat) (level offset : Int) (r : Record) (zn : Zone), s.timer.phase = .inSlot n → 15 ≤ n →
      n ≤ 17 → s.held = [{ slot := n, frame := .alarm h via .alarm seq, level := level, offset := offset,
                           senderVacated := false }] →
      s.rec? h = some r → r.kind = .detector → r.isMember = true → r.disabled = false → r.settings.parent = 0 →
      r.link.state ≠ .unreachable → r.cond.fire ≠ .alarm → r.cond.lastSeq ≠ some seq → s.zone? r.zone = some zn →
      zn.disabled = false → zn.mode = .single → (zn.state = .quiet ∨ zn.state = .prealarm) → s.queue.length < 24 →
      |offset| ≤ s.network.params.guard →
      ∃ t, exec .openSlotClose s = .next t
        ∧ t.rec? h = some { r with
            cond := { r.cond with fire := .alarm, latched := true, lastSeq := some seq },
            timing := if via = 0 then some
                { last := offset,
                  offsetMin := min ((r.timing.map Timing.offsetMin).getD offset) offset,
                  offsetMax := max ((r.timing.map Timing.offsetMax).getD offset) offset }
              else r.timing }
        ∧ (∀ g, g ≠ h → t.rec? g = s.rec? g)
        ∧ t.zone? r.zone = some { zn with state := .fire } ∧ (∀ z, z ≠ r.zone → t.zone? z = s.zone? z)
        ∧ ({ dest := h, msg := .alarmAck seq } : QueueEntry) ∈ t.queue
        ∧ (∀ g, g ∈ t.markers ↔ g = h ∨ g ∈ s.markers)
        ∧ t.attention = (s.attention.post (.record h) .fireOnset true).post (.zone r.zone) .zoneOnset true
        ∧ t = { s with
            records := t.records, zones := t.zones, held := [], queue := t.queue, markers := t.markers,
            attention := t.attention,
            timer := { s.timer with phase := if n = 17 then .downlinkDue else .inSlot (n + 1) } })
    ∧ ∀ (s : State) (n h via seq : Nat) (level offset : Int) (fs : FireState), s.timer.phase = .inSlot n → 15 ≤ n → n ≤ 17 →
        s.held = [{ slot := n, frame := .alarm h via fs seq, level := level, offset := offset, senderVacated := false }] →
        |offset| ≤ s.network.params.guard →
        let moved := { s with
          held := [], timer := { s.timer with phase := if n = 17 then .downlinkDue else .inSlot (n + 1) } }
        (s.rec? h = none → exec .openSlotClose s = .next moved)
        ∧ (∀ r, s.rec? h = some r → (fs = .none ∨ r.cond.lastSeq = some seq) → s.queue.length < 24 →
          ∃ t, exec .openSlotClose s = .next t
            ∧ t.rec? h = some { r with
                timing := if via = 0 ∧ r.settings.parent = 0 then some
                    { last := offset,
                      offsetMin := min ((r.timing.map Timing.offsetMin).getD offset) offset,
                      offsetMax := max ((r.timing.map Timing.offsetMax).getD offset) offset }
                  else r.timing }
            ∧ (∀ g, g ≠ h → t.rec? g = s.rec? g)
            ∧ (∀ g, g ∈ t.markers ↔ g = h ∨ g ∈ s.markers)
            ∧ t = { moved with
                records := t.records,
                markers := t.markers,
                queue := if fs ≠ .none ∧ s.admits h (.alarmAck seq) = true then
                    (insertRequest s.queue { dest := h, msg := .alarmAck seq }).1
                  else s.queue })
        ∧ ∀ r, s.rec? h = some r → fs ≠ .none → r.cond.lastSeq ≠ some seq →
          let stored := { moved with
            records := Tbl.set s.records h { r with cond := { r.cond with lastSeq := some seq } } }
          let after := (stored.request h (.alarmAck seq)).applyFire h fs
          ∃ t, exec .openSlotClose s = .next t
            ∧ t.rec? h = (after.rec? h).map (fun x => { x with
                timing := if via = 0 ∧ r.settings.parent = 0 then some
                    { last := offset,
                      offsetMin := min ((r.timing.map Timing.offsetMin).getD offset) offset,
                      offsetMax := max ((r.timing.map Timing.offsetMax).getD offset) offset }
                  else r.timing })
            ∧ (∀ g, g ≠ h → t.rec? g = after.rec? g)
            ∧ (∀ g, g ∈ t.markers ↔ g = h ∨ g ∈ s.markers)
            ∧ t = { after with records := t.records, markers := t.markers }

/-- DOWNLINK_SLOT: of the eligible entries the one with the smallest class number and, among those, the earliest position leaves
the queue and its message goes out on the current channel; with none eligible the slot stays idle (R143, R144, R137). -/
def Obligations.DownlinkSlotServesTheBest : Prop :=
  let nextPhase := fun (p : TimerPhase) => if p = .downlinkDue then TimerPhase.inSlot 18 else .inSlot 19
  let starts := fun (p : TimerPhase) => p = .downlinkDue ∨ p = .inSlot 18
  (∀ (s : State) (e : QueueEntry), s.eligible e = true ↔
      s.firstHop e.dest ∈ s.markers ∨ ∃ r, s.rec? (s.firstHop e.dest) = some r
        ∧ (r.kind = .relay ∨ r.settings.parent = 0
            ∧ ∃ a, (r.current = some a ∨ r.next = some a) ∧ s.timer.frame % a.cadence = a.phase))
    ∧ (∀ (s : State) (pre post : List QueueEntry) (e : QueueEntry) (r : Record), starts s.timer.phase →
        s.queue = pre ++ e :: post → s.eligible e = true → s.rec? e.dest = some r →
        (∀ x ∈ pre, s.eligible x = true → e.msg.rank < x.msg.rank) →
        (∀ x ∈ post, s.eligible x = true → e.msg.rank ≤ x.msg.rank) →
        exec .downlinkSlot s = .next { s with
          queue := pre ++ post, timer := { s.timer with phase := nextPhase s.timer.phase },
          air := some
            { channel := s.network.params.plan.getD s.monitor.index 0, networkId := s.network.params.networkId,
              frame := .downlink (s.firstHop e.dest) e.dest
                (match e.msg with
                | .alarmAck q => .alarmAck q
                | .joinGrant =>
                  .joinGrant r.serial e.dest (if r.next.isSome then r.next else r.current) r.settings r.version
                | .rearm => .rearm
                | .retireNotice => .retireNotice
                | .settings => .settings (if r.next.isSome then r.next else r.current) r.settings r.version
                | .routeUpdate =>
                  .routeUpdate ((r.route.map Route.version).getD 0)
                    ((s.childList e.dest).filterMap fun c => (s.rec? c).map fun x => (c, x.serial))
                | .timeCorrection o => .timeCorrection o) } })
    ∧ ∀ s : State, starts s.timer.phase → (∀ e ∈ s.queue, s.eligible e = false) →
        exec .downlinkSlot s = .next { s with
          timer := { s.timer with phase := nextPhase s.timer.phase }, air := none }

/-- FRAME_END, at the end of slot 19: every window, grace and the commissioning window is one frame shorter, the markers are
empty, and the band's sample is stored and judged with its device flags (R55, R23, R47, R132, R123, R153 to R155).
That FRAME_END leaves a count standing at 0 with its record or zone unchanged, and leaves the due steps to commands of their
own, is log 3. -/
def Obligations.FrameEndAdvances : Prop :=
  ∀ (s : State) (level : Int), s.timer.phase = .inSlot 19 →
    let history := (decide (s.network.params.threshold ≤ level) :: s.monitor.history).take 32
    let busy := fun n => ((history.take n).filter id).length
    let interfered :=
      if s.monitor.interfered then decide (history.length < 32 ∨ 2 < busy 32) else decide (12 ≤ busy 16)
    ∃ t, exec (.frameEnd level) s = .next t
      ∧ (∀ z, t.zone? z = (s.zone? z).map fun zn =>
          match zn.state with
          | .waiting f v n => { zn with state := .waiting f v (n - 1) }
          | _ => zn)
      ∧ (∀ h, t.rec? h = (s.rec? h).map fun r =>
          match r.lifecycle with
          | .retiring g => { r with lifecycle := .retiring (g - 1) }
          | _ => r)
      ∧ t = { s with
          zones := t.zones, records := t.records,
          commissioning := { s.commissioning with window := s.commissioning.window.map (· - 1) },
          monitor := { s.monitor with
            history := history, interfered := interfered,
            persistence :=
              if interfered then (if s.monitor.persistence < 255 then s.monitor.persistence + 1 else 255) else 0 },
          attention :=
            if interfered = true ∧ s.monitor.interfered = false then s.attention.raise .interferenceOnset
            else if interfered = false ∧ s.monitor.interfered = true then s.attention.raise .interferenceCleared
            else s.attention,
          markers := [],
          timer := { s.timer with
            phase := .frameEnd
              { formed := decide (s.network.state = .forming ∧ s.network.formingCount = 8),
                halted := decide (s.network.state = .halting), autoTest := true,
                hyper := decide (s.timer.frame = 127) } } }

/-! ### The rules the commands share -/

/-- ZONE_WINDOW_EXPIRY of a zone whose window has run out: PREALARM with a ZONE onset when an enabled member reports PREALARM or
ALARM, else QUIET with a ZONE clearing (R47, R49). A zone that waits on, or does not wait, stays (log 1). What an alarm onset
makes of a zone (R45, R46): SINGLE and every call point give FIRE; a first knock waits with the full window, and under
DOUBLE_KNOCK rearms the knocker; a second alarm gives FIRE, but for the same member under COINCIDENCE; FIRE stays. A record
of the knocker's handle is another member once the knocker's record has been vacated (R44, log 16), and the same member while it
has not, be it renumbered or moved away and back by AMEND (R44, R46, log 37). A prealarm onset puts a
QUIET zone into PREALARM and moves no other (R46). A changed fire state (R38, Table 2-2), a call point's PREALARM being NONE
(R37): ALARM latches, posts FIRE onset, urgent where the onset is offered, and offers it; PREALARM is offered, and from ALARM
runs the prealarm test; NONE posts FIRE clearing and runs the test. The prealarm test (R48): a PREALARM zone without an enabled
member that reports goes QUIET with a ZONE clearing; every other zone stays. -/
def Obligations.ZoneWindowAndOnsetDecisions : Prop :=
  (∀ (s : State) (z f : Nat) (v : Bool) (zn : Zone), s.zone? z = some zn → zn.state = .waiting f v 0 →
      (∃ e ∈ s.records, e.2.isMember = true ∧ e.2.zone = z ∧ e.2.disabled = false ∧ e.2.cond.fire ≠ .none) →
      exec (.zoneWindowExpiry z) s = .next { s with
        zones := Tbl.set s.zones z { zn with state := .prealarm },
        attention := s.attention.post (.zone z) .zoneOnset true })
    ∧ (∀ (s : State) (z f : Nat) (v : Bool) (zn : Zone), s.zone? z = some zn → zn.state = .waiting f v 0 →
        (∀ e ∈ s.records, e.2.isMember = true → e.2.zone = z → e.2.disabled = false → e.2.cond.fire = .none) →
        exec (.zoneWindowExpiry z) s = .next { s with
          zones := Tbl.set s.zones z { zn with state := .quiet },
          attention := s.attention.post (.zone z) .zoneClearing false })
    ∧ (∀ (s : State) (z : Nat), (∀ zn f v, s.zone? z = some zn → zn.state ≠ .waiting f v 0) →
        exec (.zoneWindowExpiry z) s = .next s)
    ∧ (∀ (s : State) (z h : Nat) (k : Kind) (zn : Zone), s.zone? z = some zn → zn.state ≠ .fire →
      (k = .callPoint ∨ (∃ f v n, zn.state = .waiting f v n
          ∧ (zn.mode ≠ .coincidence ∨ f ≠ h ∨ v = true))
        ∨ zn.mode = .single ∧ ∀ f v n, zn.state ≠ .waiting f v n) →
      s.offerAlarm z h k = { s with
        zones := Tbl.set s.zones z { zn with state := .fire },
        attention := s.attention.post (.zone z) .zoneOnset true })
    ∧ (∀ (s : State) (z h : Nat) (k : Kind) (zn : Zone), s.zone? z = some zn → k ≠ .callPoint →
        (zn.state = .quiet ∨ zn.state = .prealarm) → zn.mode = .coincidence →
        s.offerAlarm z h k = { s with
          zones := Tbl.set s.zones z { zn with state := .waiting h false zn.window },
          attention := s.attention.post (.zone z) .zoneOnset true })
    ∧ (∀ (s : State) (z h : Nat) (k : Kind) (zn : Zone) (r : Record), s.zone? z = some zn → k ≠ .callPoint →
        (zn.state = .quiet ∨ zn.state = .prealarm) → zn.mode = .doubleKnock → s.rec? h = some r →
        s.queue.length < 24 →
        let t := s.offerAlarm z h k
        t = { s with
            zones := Tbl.set s.zones z { zn with state := .waiting h false zn.window },
            records := Tbl.set s.records h { r with cond := { r.cond with fire := .none } },
            attention := s.attention.post (.zone z) .zoneOnset true,
            queue := t.queue }
          ∧ (s.admits h .rearm = true → ({ dest := h, msg := .rearm } : QueueEntry) ∈ t.queue))
    ∧ (∀ (s : State) (z h : Nat) (k : Kind) (zn : Zone) (n : Nat), s.zone? z = some zn → k ≠ .callPoint →
        zn.mode = .coincidence → zn.state = .waiting h false n → s.offerAlarm z h k = s)
    ∧ (∀ (s : State) (z h : Nat) (k : Kind) (zn : Zone), s.zone? z = some zn → zn.state = .fire → s.offerAlarm z h k = s)
    ∧ (∀ (s : State) (z : Nat), s.offerPrealarm z = match s.zone? z with
        | some zn => if zn.state = .quiet then { s with
              zones := Tbl.set s.zones z { zn with state := .prealarm },
              attention := s.attention.post (.zone z) .zoneOnset true }
            else s
        | none => s)
    ∧ (∀ (s : State) (z : Nat) (zn : Zone), s.zone? z = some zn → zn.state = .prealarm →
        (∀ e ∈ s.records, e.2.isMember = true → e.2.zone = z → e.2.disabled = false → e.2.cond.fire = .none) →
        s.prealarmTest z = { s with
          zones := Tbl.set s.zones z { zn with state := .quiet },
          attention := s.attention.post (.zone z) .zoneClearing false })
    ∧ (∀ (s : State) (z : Nat),
        (∀ zn, s.zone? z = some zn → zn.state = .prealarm →
          ∃ e ∈ s.records, e.2.isMember = true ∧ e.2.zone = z ∧ e.2.disabled = false ∧ e.2.cond.fire ≠ .none) →
        s.prealarmTest z = s)
    ∧ (∀ (s : State) (h : Nat) (reported : FireState), s.rec? h = none → s.applyFire h reported = s)
    ∧ ∀ (s : State) (h : Nat) (r : Record) (reported fs : FireState) (offered : Bool), s.rec? h = some r →
      fs = (if r.kind = .callPoint ∧ reported = .prealarm then .none else reported) →
      (offered = true ↔ r.isMember = true ∧ r.disabled = false ∧ ∃ zn, s.zone? r.zone = some zn ∧ zn.disabled = false) →
      let changed := { s with records := Tbl.set s.records h { r with
        cond := { r.cond with fire := fs, latched := r.cond.latched || fs == .alarm } } }
      (fs = r.cond.fire → s.applyFire h reported = s)
      ∧ (fs ≠ r.cond.fire → fs = .alarm → s.applyFire h reported =
          let posted := { changed with attention := s.attention.post (.record h) .fireOnset offered }
          if offered then posted.offerAlarm r.zone h r.kind else posted)
      ∧ (fs ≠ r.cond.fire → fs = .prealarm → s.applyFire h reported =
          let shown := if offered then changed.offerPrealarm r.zone else changed
          if r.cond.fire = .alarm ∧ r.isMember = true then shown.prealarmTest r.zone else shown)
      ∧ (fs ≠ r.cond.fire → fs = .none → s.applyFire h reported =
          let posted := { changed with attention := s.attention.post (.record h) .fireClearing false }
          if r.isMember = true then posted.prealarmTest r.zone else posted)

/-- The cascades. A missed outcome that makes a relay LOST purges its messages, makes every ACTIVE record below it UNREACHABLE
with a LINK onset, vacates every RETIRING one, and leaves the PENDING ones (R87, R111, R145, R146). A heard outcome that brings a
LOST relay back posts its LINK cause and returns every ACTIVE record below it to UNHEARD (R88, R112). A PENDING record first
heard below a relay that is down becomes ACTIVE and UNREACHABLE (R113). That the cascades pass through a PENDING relay is log
15. No outcome of an UNREACHABLE record is evaluated (R74), nor a PENDING record's miss (R75). The close of a cell without a
check-in hands its owner's miss, lane 1's from slot 0 too (log 6). -/
def Obligations.LossAndRecoveryReachTheChildren : Prop :=
  (∀ (s : State) (h : Nat) (r : Record), TreeLegal s → ReachLegal s →
      (s.network.state = .running ∨ s.network.state = .halting) → s.rec? h = some r → r.kind = .relay → r.isActive = true →
      r.link.state.isDown = false → (r.link.evaluated s.network.params .missed 0).state = .lost →
      let t := s.handOutcome h .missed 0
      t.rec? h = some { r with link := r.link.evaluated s.network.params .missed 0 }
        ∧ (∀ g q, s.rec? g = some q → s.Below h q →
            t.rec? g = if q.isRetiring = true then none
              else if q.isPending = true then some q else some { q with link := { q.link with state := .unreachable } })
        ∧ (∀ g, g ≠ h → (∀ q, s.rec? g = some q → ¬ s.Below h q) → t.rec? g = s.rec? g)
        ∧ t.queue.Sublist s.queue
        ∧ (∀ e, e ∈ t.queue ↔ e ∈ s.queue ∧ e.dest ≠ h ∧ s.firstHop e.dest ≠ h
            ∧ ∀ q, s.rec? e.dest = some q → s.Below h q → q.isPending = true ∨ q.link.state = .unreachable)
        ∧ (s.attention.keeps .linkOnset = true →
            ∀ g q, s.rec? g = some q →
              (g = h ∨ s.Below h q ∧ q.isPending = false ∧ q.link.state ≠ .unreachable) →
              ∃ e ∈ t.attention.entries, e.target = .record g ∧ e.marks.getLsbD 4 = true)
        ∧ (s.attention.keeps .lifecycle = true → ∀ g q, s.rec? g = some q → s.Below h q → q.isRetiring = true →
            ∃ e ∈ t.attention.entries, e.target = .record g ∧ e.marks.getLsbD 9 = true)
        ∧ t = { s with
            records := t.records, zones := t.zones, held := t.held, queue := t.queue, attention := t.attention })
    ∧ (∀ (s : State) (h m : Nat) (r : Record), TreeLegal s → ReachLegal s → s.rec? h = some r → r.kind = .relay →
        r.isActive = true → r.link.state = .lost →
        let after := (r.link.evaluated s.network.params .heard m).state
        after ≠ .lost →
        let t := s.handOutcome h .heard m
        t.rec? h = some { r with link := r.link.evaluated s.network.params .heard m }
          ∧ (∀ g q, s.rec? g = some q → s.Below h q →
              t.rec? g = some (if q.isActive then { q with link := { q.link with state := .unheard, missRun := 0 } } else q))
          ∧ (∀ g, g ≠ h → (∀ q, s.rec? g = some q → ¬ s.Below h q) → t.rec? g = s.rec? g)
          ∧ t = { s with
              records := t.records,
              attention := s.attention.post (.record h) (if after = .linked then .linkClearing else .linkOnset) false })
    ∧ (∀ (s : State) (c m : Nat) (q : Record), TreeLegal s → s.rec? c = some q → q.isPending = true →
        s.chainBroken c = true → s.children c = [] →
        s.handOutcome c .heard m = { s with
          records := Tbl.set s.records c { q with lifecycle := .active, link := { q.link with state := .unreachable } },
          queue := if q.link.state = .unreachable then s.queue else s.queue.filter fun e => e.dest != c,
          attention :=
            if q.link.state = .unreachable then s.attention.post (.record c) .lifecycle false
            else (s.attention.post (.record c) .lifecycle false).post (.record c) .linkOnset false })
    ∧ (∀ (s : State) (c m : Nat) (result : Result) (q : Record), s.rec? c = some q →
        (q.isPending = false ∧ q.link.state = .unreachable ∨ q.isPending = true ∧ result = .missed) →
        s.handOutcome c result m = s)
    ∧ ∀ (s : State) (n h : Nat) (r : Record) (a : Alloc), MapLegal s →
        (s.timer.phase = .inSlot n ∨ n = 1 ∧ s.timer.phase = .inSlot 0) → 1 ≤ n → n ≤ 14 →
        (∀ x ∈ s.held, x.slot ≠ n) → s.rec? h = some r → r.current = some a → a.lane = n →
        s.timer.frame % a.cadence = a.phase →
        exec .laneSlotClose s =
          .next (State.handOutcome { s with timer := { s.timer with phase := .inSlot (n + 1) } } h .missed 0)

/-- The granted cadence is the largest cadence that is not above the larger of q and 1 and keeps P × M within C; the clamp is
reported when it is below q and when q is 0 (R57). -/
def Obligations.CadenceClampGrants : Prop :=
  ∀ M C q : Nat, 2 ≤ M → M ≤ 8 → 32 ≤ C → C ≤ 480 →
    let P := clampCadence M C q
    (∃ k ≤ 7, P = 2 ^ k) ∧ P ≤ max q 1 ∧ P * M ≤ C
      ∧ (∀ k ≤ 7, 2 ^ k ≤ max q 1 → 2 ^ k * M ≤ C → 2 ^ k ≤ P)
      ∧ (clampReported M C q = true ↔ P < q ∨ q = 0)

/-- Two allocations collide exactly when they own a common cell of the hyperframe (R60), and the first-fit search answers the
first allocation, by lane and then by phase, that collides with no entry (R63). -/
def Obligations.CollisionAndFirstFit : Prop :=
  (∀ a b : Alloc, a.Legal → b.Legal →
      (a.collides b = true ↔ ∃ lane frame, frame < 128 ∧ a.owns lane frame = true ∧ b.owns lane frame = true))
    ∧ (∀ (entries : List LaneEntry) (P : Nat) (a : Alloc), firstFit entries P = some a ↔
        a.cadence = P ∧ 1 ≤ a.lane ∧ a.lane ≤ 14 ∧ a.phase < P ∧ (∀ e ∈ entries, e.alloc.collides a = false)
          ∧ ∀ lane phase, 1 ≤ lane → phase < P → (lane < a.lane ∨ lane = a.lane ∧ phase < a.phase) →
              ∃ e ∈ entries, e.alloc.collides { lane := lane, cadence := P, phase := phase } = true)
    ∧ ∀ (entries : List LaneEntry) (P : Nat), firstFit entries P = none ↔
        ∀ lane phase, 1 ≤ lane → lane ≤ 14 → phase < P →
          ∃ e ∈ entries, e.alloc.collides { lane := lane, cadence := P, phase := phase } = true

/-- The LQF step: a heard outcome of margin m seeds an absent LQF with 16m, a missed one leaves it absent, and a present LQF moves
by one eighth of the difference to 16m (0 when missed), rounded toward minus infinity; it stays in 0..1008 and never passes its
goal (R78). -/
def Obligations.LqfMovesTowardMargin : Prop :=
  (∀ m : Nat, lqfStep none .heard m = some (16 * m)) ∧ (∀ m : Nat, lqfStep none .missed m = none)
    ∧ ∀ (q m : Nat) (result : Result), q ≤ 1008 → m ≤ 63 →
        let goal : Nat := if result = .heard then 16 * m else 0
        ∃ q' : Nat, lqfStep (some q) result m = some q' ∧ (q' : Int) = q + ⌊(((goal : Int) - q : Int) : ℚ) / 8⌋
          ∧ q' ≤ 1008 ∧ (goal ≤ q → goal ≤ q' ∧ q' ≤ q) ∧ (q ≤ goal → q ≤ q' ∧ q' ≤ goal)

/-- The Downlink Queue takes an admitted request by R140 to R142, sets QUEUE_OVERFLOW exactly when it discards it, and admits none
for a VACANT slot, an UNREACHABLE destination or one behind a LOST relay, but for the JOIN_GRANT of a PENDING record (R139). -/
def Obligations.QueueTakesRequests : Prop :=
  (∀ (pre post : List QueueEntry) (x e : QueueEntry), x.samePair e = true →
      (∀ y ∈ pre ++ post, y.samePair e = false) → insertRequest (pre ++ x :: post) e = (pre ++ e :: post, false))
    ∧ (∀ (q : List QueueEntry) (e : QueueEntry), (∀ y ∈ q, y.samePair e = false) → q.length < 24 →
        insertRequest q e = (q ++ [e], false))
    ∧ (∀ (pre post : List QueueEntry) (x e : QueueEntry), (∀ y ∈ pre ++ x :: post, y.samePair e = false) →
        24 ≤ (pre ++ x :: post).length → e.msg.rank < x.msg.rank → (∀ y ∈ pre, y.msg.rank ≤ x.msg.rank) →
        (∀ y ∈ post, y.msg.rank < x.msg.rank) →
        insertRequest (pre ++ x :: post) e = (pre ++ post ++ [e], false))
    ∧ (∀ (q : List QueueEntry) (e : QueueEntry), (∀ y ∈ q, y.samePair e = false) → 24 ≤ q.length →
        (∀ y ∈ q, y.msg.rank ≤ e.msg.rank) → insertRequest q e = (q, true))
    ∧ (∀ (s : State) (h : Nat) (msg : Msg), s.admits h msg = true →
        let taken := insertRequest s.queue { dest := h, msg := msg }
        s.request h msg = { s with
          queue := taken.1, attention := if taken.2 then s.attention.raise .queueOverflow else s.attention })
    ∧ (∀ (a : Attention) (f : Flag), (a.raise f).isSet f = true ∧ (∀ g, g ≠ f → (a.raise f).isSet g = a.isSet g)
        ∧ a.raise f = { a with flags := (a.raise f).flags })
    ∧ ∀ (s : State) (h : Nat) (msg : Msg),
        (s.admits h msg = false → s.request h msg = s)
          ∧ (s.admits h msg = true ↔ ∃ r, s.rec? h = some r ∧ r.link.state ≠ .unreachable
              ∧ ((∀ hop, s.rec? (s.firstHop h) = some hop → hop.kind = .relay → hop.link.state ≠ .lost)
                  ∨ msg = .joinGrant ∧ r.lifecycle = .pending))

/-- The entries of a roll-call that are accepted: the first of each child, of a record whose parent is the reporting relay, with
values in range where it is heard, and reported by the relay itself or by a relay child whose own entry is accepted and heard
(R105). A reporting relay judged by its roll-call: a version equal to its child-list version clears the stale run; another
version, or none, raises it by one up to 255 and requests a ROUTE_UPDATE; the version it reports is stored (R106). -/
def Obligations.RelayJudgedByRollCall : Prop :=
  (∀ (s : State) (x0 : Nat) (entries : List RollEntry) (e : RollEntry), TablesLegal s → x0 ≠ 0 →
      let inRange := fun e : RollEntry => e.heard = true → e.margin ≤ 63 ∧ e.fire ≤ 2 ∧ e.faults ≤ 15
      (e ∈ s.acceptedEntries x0 entries ↔ entries.find? (·.child == e.child) = some e ∧ inRange e ∧ e.relay ≠ 0
        ∧ (∃ q, s.rec? e.child = some q ∧ q.settings.parent = e.relay)
        ∧ (e.relay = x0 ∨ (∃ y, s.rec? e.relay = some y ∧ y.kind = .relay ∧ y.settings.parent = x0)
            ∧ ∃ f, entries.find? (·.child == e.relay) = some f ∧ f.relay = x0 ∧ f.heard = true ∧ inRange f)))
    ∧ (∀ (s : State) (x : Nat) (r : Record) (route : Route), s.rec? x = some r → r.route = some route →
        s.judgeRelay x (some route.version) =
          ({ s with
              records := Tbl.set s.records x
                { r with route := some { version := route.version, reported := some route.version, staleRun := 0 } } },
            { relay := x, stale := false, runBefore := route.staleRun }))
    ∧ ∀ (s : State) (x : Nat) (r : Record) (route : Route) (v : Option Version), s.rec? x = some r →
        r.route = some route → v ≠ some route.version →
        let t := (s.judgeRelay x v).1
        (s.judgeRelay x v).2 = { relay := x, stale := true, runBefore := route.staleRun }
          ∧ t = { s with
              records := Tbl.set s.records x
                { r with
                  route := some
                    { version := route.version, reported := if v.isSome then v else route.reported,
                      staleRun := if route.staleRun < 255 then route.staleRun + 1 else 255 } },
              queue := t.queue, attention := t.attention }
          ∧ (s.admits x .routeUpdate = true → s.queue.length < 24 →
              ({ dest := x, msg := .routeUpdate } : QueueEntry) ∈ t.queue)
end

