-- ==== Sys2Proof/Laws/Table.lean ====
section
/-! SUPPORT. What reading a table gives after each of its operations, and that each keeps the canonical form. -/

namespace Sys2Proof.Machine

variable {α : Type}

@[simp] theorem Tbl.get_nil (n : Nat) : Tbl.get ([] : Tbl α) n = none := rfl

theorem Tbl.get_set (t : Tbl α) (n m : Nat) (v : α) :
    Tbl.get (Tbl.set t n v) m = if m = n then some v else Tbl.get t m := by
  induction t with
  | nil => simp [Tbl.set, Tbl.get]
  | cons e t ih =>
    obtain ⟨k, w⟩ := e
    simp only [Tbl.set]
    split_ifs <;> simp only [Tbl.get, ih] <;> split_ifs <;> first | rfl | omega

@[simp] theorem Tbl.get_set_same (t : Tbl α) (n : Nat) (v : α) : Tbl.get (Tbl.set t n v) n = some v := by
  simp [Tbl.get_set]

theorem Tbl.get_set_other (t : Tbl α) {n m : Nat} (v : α) (h : m ≠ n) :
    Tbl.get (Tbl.set t n v) m = Tbl.get t m := by
  simp [Tbl.get_set, h]

theorem Tbl.get_drop (t : Tbl α) (n m : Nat) :
    Tbl.get (Tbl.drop t n) m = if m = n then none else Tbl.get t m := by
  induction t with
  | nil => simp [Tbl.drop, Tbl.get]
  | cons e t ih =>
    obtain ⟨k, w⟩ := e
    simp only [Tbl.drop] at ih ⊢
    by_cases hk : k = n
    · subst hk
      simp only [List.filter_cons, bne_self_eq_false, Bool.false_eq_true, if_false, ih, Tbl.get]
      split_ifs <;> rfl
    · simp only [List.filter_cons, bne_iff_ne, ne_eq, hk, not_false_eq_true, if_true, Tbl.get, ih]
      split_ifs <;> first | rfl | omega

theorem Tbl.get_mapValues (f : Nat → α → α) (t : Tbl α) (n : Nat) :
    Tbl.get (Tbl.mapValues f t) n = (Tbl.get t n).map (f n) := by
  induction t with
  | nil => rfl
  | cons e t ih =>
    obtain ⟨k, w⟩ := e
    simp only [Tbl.mapValues, List.map_cons, Tbl.get] at ih ⊢
    split_ifs with h
    · simp [h]
    · exact ih

/-- An entry that reading finds is in the table. -/
theorem Tbl.mem_of_get {t : Tbl α} {n : Nat} {v : α} (h : Tbl.get t n = some v) : (n, v) ∈ t := by
  induction t with
  | nil => simp at h
  | cons e t ih =>
    obtain ⟨k, w⟩ := e
    simp only [Tbl.get] at h
    split_ifs at h with hk
    · simp at h; simp [hk, h]
    · exact List.mem_cons_of_mem _ (ih h)

/-- In a canonical table reading finds every entry. -/
theorem Tbl.get_of_mem {t : Tbl α} (hc : Tbl.Canonical t) {n : Nat} {v : α} (h : (n, v) ∈ t) :
    Tbl.get t n = some v := by
  induction t with
  | nil => simp at h
  | cons e t ih =>
    obtain ⟨k, w⟩ := e
    simp only [Tbl.Canonical, List.map_cons, List.pairwise_cons] at hc
    simp only [List.mem_cons, Prod.mk.injEq] at h
    simp only [Tbl.get]
    rcases h with ⟨rfl, rfl⟩ | h
    · simp
    · have := hc.1 n (List.mem_map_of_mem (f := Prod.fst) h)
      rw [if_neg (by omega)]
      exact ih hc.2 h

theorem Tbl.canonical_nil : Tbl.Canonical ([] : Tbl α) := List.Pairwise.nil

theorem Tbl.mem_set_keys {t : Tbl α} {n k : Nat} {v : α} (h : k ∈ (Tbl.set t n v).map Prod.fst) :
    k = n ∨ k ∈ t.map Prod.fst := by
  induction t with
  | nil => simpa [Tbl.set] using h
  | cons e t ih =>
    obtain ⟨j, w⟩ := e
    simp only [Tbl.set] at h
    split_ifs at h <;> simp only [List.map_cons, List.mem_cons] at h ⊢
    · tauto
    · tauto
    · rcases h with h | h
      · tauto
      · rcases ih h with h | h <;> tauto

theorem Tbl.canonical_set {t : Tbl α} (hc : Tbl.Canonical t) (n : Nat) (v : α) : Tbl.Canonical (Tbl.set t n v) := by
  induction t with
  | nil => simp [Tbl.set, Tbl.Canonical]
  | cons e t ih =>
    obtain ⟨k, w⟩ := e
    simp only [Tbl.Canonical, List.map_cons, List.pairwise_cons] at hc
    simp only [Tbl.set]
    split_ifs with h1 h2
    · simpa [Tbl.Canonical] using hc
    · simp only [Tbl.Canonical, List.map_cons, List.pairwise_cons, List.mem_cons]
      refine ⟨?_, hc.1, hc.2⟩
      rintro a (rfl | ha)
      · exact h2
      · exact lt_trans h2 (hc.1 a ha)
    · simp only [Tbl.Canonical, List.map_cons, List.pairwise_cons]
      refine ⟨fun a ha => ?_, ih hc.2⟩
      rcases Tbl.mem_set_keys ha with rfl | ha
      · omega
      · exact hc.1 a ha

theorem Tbl.canonical_drop {t : Tbl α} (hc : Tbl.Canonical t) (n : Nat) : Tbl.Canonical (Tbl.drop t n) :=
  List.Pairwise.sublist (List.Sublist.map _ List.filter_sublist) hc

theorem Tbl.keys_mapValues (f : Nat → α → α) (t : Tbl α) : (Tbl.mapValues f t).map Prod.fst = t.map Prod.fst := by
  simp [Tbl.mapValues, Function.comp_def]

theorem Tbl.canonical_mapValues (f : Nat → α → α) {t : Tbl α} (hc : Tbl.Canonical t) :
    Tbl.Canonical (Tbl.mapValues f t) := by
  simpa [Tbl.Canonical, Tbl.keys_mapValues] using hc

/-! ### Sorted lists -/

theorem insertBy_perm (key : α → Nat) (x : α) (l : List α) : (insertBy key x l).Perm (x :: l) := by
  induction l with
  | nil => simp [insertBy]
  | cons y t ih =>
    simp only [insertBy]
    split_ifs
    · exact List.Perm.refl _
    · exact (ih.cons y).trans (List.Perm.swap x y t)

theorem sortBy_perm (key : α → Nat) (l : List α) : (sortBy key l).Perm l := by
  induction l with
  | nil => simp [sortBy]
  | cons x t ih => exact (insertBy_perm key x _).trans (ih.cons x)

@[simp] theorem mem_sortBy (key : α → Nat) (l : List α) (x : α) : x ∈ sortBy key l ↔ x ∈ l :=
  (sortBy_perm key l).mem_iff

@[simp] theorem length_sortBy (key : α → Nat) (l : List α) : (sortBy key l).length = l.length :=
  (sortBy_perm key l).length_eq

theorem insertBy_sorted (key : α → Nat) (x : α) {l : List α} (h : l.Pairwise fun a b => key a ≤ key b) :
    (insertBy key x l).Pairwise fun a b => key a ≤ key b := by
  induction l with
  | nil => simp [insertBy]
  | cons y t ih =>
    simp only [List.pairwise_cons] at h
    simp only [insertBy]
    split_ifs with hk
    · simp only [List.pairwise_cons, List.mem_cons]
      refine ⟨?_, h⟩
      rintro a (rfl | ha)
      · omega
      · have := h.1 a ha; omega
    · simp only [List.pairwise_cons]
      refine ⟨fun a ha => ?_, ih h.2⟩
      rcases List.mem_cons.mp ((insertBy_perm key x t).mem_iff.mp ha) with rfl | ha
      · omega
      · exact h.1 a ha

/-- A sorted list's keys rise (equal keys may stand together). -/
theorem sortBy_sorted (key : α → Nat) (l : List α) : (sortBy key l).Pairwise fun a b => key a ≤ key b := by
  induction l with
  | nil => simp [sortBy]
  | cons x t ih => exact insertBy_sorted key x ih

end Sys2Proof.Machine
end

