-- ==== Sys2Proof/Laws/Legal.lean ====
section
/-! SUPPORT. The laws of the blocks from forms that can be decided on a given state. -/

namespace Sys2Proof.Machine

/-- The law of one record's allocations (R62) in a form that can be decided. -/
theorem Record.allocLegal_of {r : Record} (direct : r.current.isSome = true ↔ r.settings.parent = 0)
    (next : r.next.isSome = true → r.current.isSome = true) (cadence : r.settings.cadence ∈ cadences)
    (legal : ∀ a ∈ r.current.toList ++ r.next.toList, isLane a.lane = true ∧ a.cadence ∈ cadences ∧ a.phase < a.cadence) :
    r.AllocLegal where
  direct := direct
  next := next
  currentLegal a h :=
    have l := legal a (by simp [h])
    ⟨l.1, l.2.1, l.2.2⟩
  nextLegal a h :=
    have l := legal a (by simp [h])
    ⟨l.1, l.2.1, l.2.2⟩
  cadence := cadence

/-- The law of the Lane Occupancy Map (R61, R62) in a form that can be decided. -/
theorem mapLegal_of {s : State} (tables : Tbl.Canonical s.records)
    (records : ∀ e ∈ s.records, (e.2.current.isSome = true ↔ e.2.settings.parent = 0)
      ∧ (e.2.next.isSome = true → e.2.current.isSome = true) ∧ e.2.settings.cadence ∈ cadences
      ∧ ∀ a ∈ e.2.current.toList ++ e.2.next.toList, isLane a.lane = true ∧ a.cadence ∈ cadences ∧ a.phase < a.cadence)
    (apart : s.laneEntries.Pairwise fun a b => a.alloc.collides b.alloc = false) : MapLegal s where
  tables := tables
  records e h :=
    have r := records e h
    Record.allocLegal_of r.1 r.2.1 r.2.2.1 r.2.2.2
  apart := apart

/-- Where no two entries of a table hold records that agree, two handles with agreeing records are one. -/
theorem Tbl.handles_eq {t : Tbl Record} {P : Record → Record → Prop} (apart : t.Pairwise fun a b => ¬ P a.2 b.2)
    (symm : ∀ q r, P q r → P r q) {g h : Nat} {q r : Record} (hq : Tbl.get t g = some q) (hr : Tbl.get t h = some r)
    (p : P q r) : g = h := by
  have mq := Tbl.mem_of_get hq
  have mr := Tbl.mem_of_get hr
  clear hq hr
  induction t with
  | nil => simp at mq
  | cons e t ih =>
    obtain ⟨first, rest⟩ := List.pairwise_cons.mp apart
    rcases List.mem_cons.mp mq with rfl | mq' <;> rcases List.mem_cons.mp mr with e' | mr'
    · exact (congrArg Prod.fst e').symm
    · exact absurd p (first _ mr')
    · subst e'; exact absurd (symm _ _ p) (first _ mq')
    · exact ih rest mq' mr'

/-- The law of the registry (R2, R3) in a form that can be decided. -/
theorem registryLegal_of {s : State} (tables : TablesLegal s)
    (serials : s.records.Pairwise fun a b => ¬ a.2.serial = b.2.serial)
    (addresses : s.records.Pairwise fun a b =>
      ¬ (a.2.isMember = true ∧ b.2.isMember = true ∧ a.2.zone = b.2.zone ∧ a.2.member = b.2.member)) :
    RegistryLegal s where
  tables := tables
  serials _ _ _ _ hq hr e :=
    Tbl.handles_eq (P := fun q r => q.serial = r.serial) serials (fun _ _ p => p.symm) hq hr e
  addresses _ _ _ _ hq hr mq mr z m :=
    Tbl.handles_eq (P := fun q r => q.isMember = true ∧ r.isMember = true ∧ q.zone = r.zone ∧ q.member = r.member)
      addresses (fun _ _ p => ⟨p.2.1, p.1, p.2.2.1.symm, p.2.2.2.symm⟩) hq hr ⟨mq, mr, z, m⟩

/-- The law of the relay tree (R4) in a form that can be decided, for a registry of at most twelve records. -/
theorem treeLegal_of {s : State} (tables : TablesLegal s)
    (parents : ∀ e ∈ s.records, e.2.settings.parent ≠ 0 →
      ((s.rec? e.2.settings.parent).any fun p => p.isRelay && p.isMember) = true)
    (depth : ∀ e ∈ s.records, ∀ p ∈ s.rec? e.2.settings.parent, p.settings.parent ≠ 0 → s.parentOf p.settings.parent = 0)
    (few : s.records.length ≤ 12)
    (descendants : ∀ e ∈ s.records, e.2.settings.parent = 0 → (s.descendants e.1).length ≤ 24) : TreeLegal s where
  tables := tables
  parents _ _ hr np := by
    have a := parents _ (Tbl.mem_of_get hr) np
    obtain ⟨p, hp, m⟩ := (Option.any_eq_true ..).mp a
    exact ⟨p, hp, by simpa using m⟩
  depth _ _ p hr hp np := depth _ (Tbl.mem_of_get hr) p hp np
  children h _ := by
    simp only [State.children, List.length_map]
    exact (List.length_filter_le _ _).trans few
  descendants _ _ hr np := descendants _ (Tbl.mem_of_get hr) np

/-- The law of reachability (R24, R89, R93) in a form that can be decided. -/
theorem reachLegal_of {s : State}
    (records : ∀ e ∈ s.records, (e.2.isPending = true → e.2.link.state = .unheard)
      ∧ (e.2.isActive = true → (e.2.link.state = .unreachable ↔ s.chainBroken e.1 = true))
      ∧ (e.2.isRetiring = true → e.2.link.state.isDown = false)) : ReachLegal s where
  pending _ _ hr := (records _ (Tbl.mem_of_get hr)).1
  active _ _ hr := (records _ (Tbl.mem_of_get hr)).2.1
  retiring _ _ hr := (records _ (Tbl.mem_of_get hr)).2.2

end Sys2Proof.Machine
end

