-- ==== Sys2Proof/Laws/State.lean ====
section
/-! SUPPORT. What each update of State leaves in each field. -/

namespace Sys2Proof.Machine

@[simp] theorem State.setRecords_records (s : State) (x : Tbl Record) : (s.setRecords x).records = x := rfl
@[simp] theorem State.setRecords_cursor (s : State) (x : Tbl Record) : (s.setRecords x).cursor = s.cursor := rfl
@[simp] theorem State.setRecords_zones (s : State) (x : Tbl Record) : (s.setRecords x).zones = s.zones := rfl
@[simp] theorem State.setRecords_timer (s : State) (x : Tbl Record) : (s.setRecords x).timer = s.timer := rfl
@[simp] theorem State.setRecords_held (s : State) (x : Tbl Record) : (s.setRecords x).held = s.held := rfl
@[simp] theorem State.setRecords_markers (s : State) (x : Tbl Record) : (s.setRecords x).markers = s.markers := rfl
@[simp] theorem State.setRecords_commissioning (s : State) (x : Tbl Record) : (s.setRecords x).commissioning = s.commissioning := rfl
@[simp] theorem State.setRecords_queue (s : State) (x : Tbl Record) : (s.setRecords x).queue = s.queue := rfl
@[simp] theorem State.setRecords_monitor (s : State) (x : Tbl Record) : (s.setRecords x).monitor = s.monitor := rfl
@[simp] theorem State.setRecords_attention (s : State) (x : Tbl Record) : (s.setRecords x).attention = s.attention := rfl
@[simp] theorem State.setRecords_port (s : State) (x : Tbl Record) : (s.setRecords x).port = s.port := rfl
@[simp] theorem State.setRecords_network (s : State) (x : Tbl Record) : (s.setRecords x).network = s.network := rfl
@[simp] theorem State.setRecords_air (s : State) (x : Tbl Record) : (s.setRecords x).air = s.air := rfl
@[simp] theorem State.setRecords_choices (s : State) (x : Tbl Record) : (s.setRecords x).choices = s.choices := rfl
@[simp] theorem State.setRecords_pending (s : State) (x : Tbl Record) : (s.setRecords x).pending = s.pending := rfl

@[simp] theorem State.setCursor_records (s : State) (x : Option (Nat × Nat)) : (s.setCursor x).records = s.records := rfl
@[simp] theorem State.setCursor_cursor (s : State) (x : Option (Nat × Nat)) : (s.setCursor x).cursor = x := rfl
@[simp] theorem State.setCursor_zones (s : State) (x : Option (Nat × Nat)) : (s.setCursor x).zones = s.zones := rfl
@[simp] theorem State.setCursor_timer (s : State) (x : Option (Nat × Nat)) : (s.setCursor x).timer = s.timer := rfl
@[simp] theorem State.setCursor_held (s : State) (x : Option (Nat × Nat)) : (s.setCursor x).held = s.held := rfl
@[simp] theorem State.setCursor_markers (s : State) (x : Option (Nat × Nat)) : (s.setCursor x).markers = s.markers := rfl
@[simp] theorem State.setCursor_commissioning (s : State) (x : Option (Nat × Nat)) : (s.setCursor x).commissioning = s.commissioning := rfl
@[simp] theorem State.setCursor_queue (s : State) (x : Option (Nat × Nat)) : (s.setCursor x).queue = s.queue := rfl
@[simp] theorem State.setCursor_monitor (s : State) (x : Option (Nat × Nat)) : (s.setCursor x).monitor = s.monitor := rfl
@[simp] theorem State.setCursor_attention (s : State) (x : Option (Nat × Nat)) : (s.setCursor x).attention = s.attention := rfl
@[simp] theorem State.setCursor_port (s : State) (x : Option (Nat × Nat)) : (s.setCursor x).port = s.port := rfl
@[simp] theorem State.setCursor_network (s : State) (x : Option (Nat × Nat)) : (s.setCursor x).network = s.network := rfl
@[simp] theorem State.setCursor_air (s : State) (x : Option (Nat × Nat)) : (s.setCursor x).air = s.air := rfl
@[simp] theorem State.setCursor_choices (s : State) (x : Option (Nat × Nat)) : (s.setCursor x).choices = s.choices := rfl
@[simp] theorem State.setCursor_pending (s : State) (x : Option (Nat × Nat)) : (s.setCursor x).pending = s.pending := rfl

@[simp] theorem State.setZones_records (s : State) (x : Tbl Zone) : (s.setZones x).records = s.records := rfl
@[simp] theorem State.setZones_cursor (s : State) (x : Tbl Zone) : (s.setZones x).cursor = s.cursor := rfl
@[simp] theorem State.setZones_zones (s : State) (x : Tbl Zone) : (s.setZones x).zones = x := rfl
@[simp] theorem State.setZones_timer (s : State) (x : Tbl Zone) : (s.setZones x).timer = s.timer := rfl
@[simp] theorem State.setZones_held (s : State) (x : Tbl Zone) : (s.setZones x).held = s.held := rfl
@[simp] theorem State.setZones_markers (s : State) (x : Tbl Zone) : (s.setZones x).markers = s.markers := rfl
@[simp] theorem State.setZones_commissioning (s : State) (x : Tbl Zone) : (s.setZones x).commissioning = s.commissioning := rfl
@[simp] theorem State.setZones_queue (s : State) (x : Tbl Zone) : (s.setZones x).queue = s.queue := rfl
@[simp] theorem State.setZones_monitor (s : State) (x : Tbl Zone) : (s.setZones x).monitor = s.monitor := rfl
@[simp] theorem State.setZones_attention (s : State) (x : Tbl Zone) : (s.setZones x).attention = s.attention := rfl
@[simp] theorem State.setZones_port (s : State) (x : Tbl Zone) : (s.setZones x).port = s.port := rfl
@[simp] theorem State.setZones_network (s : State) (x : Tbl Zone) : (s.setZones x).network = s.network := rfl
@[simp] theorem State.setZones_air (s : State) (x : Tbl Zone) : (s.setZones x).air = s.air := rfl
@[simp] theorem State.setZones_choices (s : State) (x : Tbl Zone) : (s.setZones x).choices = s.choices := rfl
@[simp] theorem State.setZones_pending (s : State) (x : Tbl Zone) : (s.setZones x).pending = s.pending := rfl

@[simp] theorem State.setTimer_records (s : State) (x : Timer) : (s.setTimer x).records = s.records := rfl
@[simp] theorem State.setTimer_cursor (s : State) (x : Timer) : (s.setTimer x).cursor = s.cursor := rfl
@[simp] theorem State.setTimer_zones (s : State) (x : Timer) : (s.setTimer x).zones = s.zones := rfl
@[simp] theorem State.setTimer_timer (s : State) (x : Timer) : (s.setTimer x).timer = x := rfl
@[simp] theorem State.setTimer_held (s : State) (x : Timer) : (s.setTimer x).held = s.held := rfl
@[simp] theorem State.setTimer_markers (s : State) (x : Timer) : (s.setTimer x).markers = s.markers := rfl
@[simp] theorem State.setTimer_commissioning (s : State) (x : Timer) : (s.setTimer x).commissioning = s.commissioning := rfl
@[simp] theorem State.setTimer_queue (s : State) (x : Timer) : (s.setTimer x).queue = s.queue := rfl
@[simp] theorem State.setTimer_monitor (s : State) (x : Timer) : (s.setTimer x).monitor = s.monitor := rfl
@[simp] theorem State.setTimer_attention (s : State) (x : Timer) : (s.setTimer x).attention = s.attention := rfl
@[simp] theorem State.setTimer_port (s : State) (x : Timer) : (s.setTimer x).port = s.port := rfl
@[simp] theorem State.setTimer_network (s : State) (x : Timer) : (s.setTimer x).network = s.network := rfl
@[simp] theorem State.setTimer_air (s : State) (x : Timer) : (s.setTimer x).air = s.air := rfl
@[simp] theorem State.setTimer_choices (s : State) (x : Timer) : (s.setTimer x).choices = s.choices := rfl
@[simp] theorem State.setTimer_pending (s : State) (x : Timer) : (s.setTimer x).pending = s.pending := rfl

@[simp] theorem State.setHeld_records (s : State) (x : List Held) : (s.setHeld x).records = s.records := rfl
@[simp] theorem State.setHeld_cursor (s : State) (x : List Held) : (s.setHeld x).cursor = s.cursor := rfl
@[simp] theorem State.setHeld_zones (s : State) (x : List Held) : (s.setHeld x).zones = s.zones := rfl
@[simp] theorem State.setHeld_timer (s : State) (x : List Held) : (s.setHeld x).timer = s.timer := rfl
@[simp] theorem State.setHeld_held (s : State) (x : List Held) : (s.setHeld x).held = x := rfl
@[simp] theorem State.setHeld_markers (s : State) (x : List Held) : (s.setHeld x).markers = s.markers := rfl
@[simp] theorem State.setHeld_commissioning (s : State) (x : List Held) : (s.setHeld x).commissioning = s.commissioning := rfl
@[simp] theorem State.setHeld_queue (s : State) (x : List Held) : (s.setHeld x).queue = s.queue := rfl
@[simp] theorem State.setHeld_monitor (s : State) (x : List Held) : (s.setHeld x).monitor = s.monitor := rfl
@[simp] theorem State.setHeld_attention (s : State) (x : List Held) : (s.setHeld x).attention = s.attention := rfl
@[simp] theorem State.setHeld_port (s : State) (x : List Held) : (s.setHeld x).port = s.port := rfl
@[simp] theorem State.setHeld_network (s : State) (x : List Held) : (s.setHeld x).network = s.network := rfl
@[simp] theorem State.setHeld_air (s : State) (x : List Held) : (s.setHeld x).air = s.air := rfl
@[simp] theorem State.setHeld_choices (s : State) (x : List Held) : (s.setHeld x).choices = s.choices := rfl
@[simp] theorem State.setHeld_pending (s : State) (x : List Held) : (s.setHeld x).pending = s.pending := rfl

@[simp] theorem State.setMarkers_records (s : State) (x : List Nat) : (s.setMarkers x).records = s.records := rfl
@[simp] theorem State.setMarkers_cursor (s : State) (x : List Nat) : (s.setMarkers x).cursor = s.cursor := rfl
@[simp] theorem State.setMarkers_zones (s : State) (x : List Nat) : (s.setMarkers x).zones = s.zones := rfl
@[simp] theorem State.setMarkers_timer (s : State) (x : List Nat) : (s.setMarkers x).timer = s.timer := rfl
@[simp] theorem State.setMarkers_held (s : State) (x : List Nat) : (s.setMarkers x).held = s.held := rfl
@[simp] theorem State.setMarkers_markers (s : State) (x : List Nat) : (s.setMarkers x).markers = x := rfl
@[simp] theorem State.setMarkers_commissioning (s : State) (x : List Nat) : (s.setMarkers x).commissioning = s.commissioning := rfl
@[simp] theorem State.setMarkers_queue (s : State) (x : List Nat) : (s.setMarkers x).queue = s.queue := rfl
@[simp] theorem State.setMarkers_monitor (s : State) (x : List Nat) : (s.setMarkers x).monitor = s.monitor := rfl
@[simp] theorem State.setMarkers_attention (s : State) (x : List Nat) : (s.setMarkers x).attention = s.attention := rfl
@[simp] theorem State.setMarkers_port (s : State) (x : List Nat) : (s.setMarkers x).port = s.port := rfl
@[simp] theorem State.setMarkers_network (s : State) (x : List Nat) : (s.setMarkers x).network = s.network := rfl
@[simp] theorem State.setMarkers_air (s : State) (x : List Nat) : (s.setMarkers x).air = s.air := rfl
@[simp] theorem State.setMarkers_choices (s : State) (x : List Nat) : (s.setMarkers x).choices = s.choices := rfl
@[simp] theorem State.setMarkers_pending (s : State) (x : List Nat) : (s.setMarkers x).pending = s.pending := rfl

@[simp] theorem State.setCommissioning_records (s : State) (x : Commissioning) : (s.setCommissioning x).records = s.records := rfl
@[simp] theorem State.setCommissioning_cursor (s : State) (x : Commissioning) : (s.setCommissioning x).cursor = s.cursor := rfl
@[simp] theorem State.setCommissioning_zones (s : State) (x : Commissioning) : (s.setCommissioning x).zones = s.zones := rfl
@[simp] theorem State.setCommissioning_timer (s : State) (x : Commissioning) : (s.setCommissioning x).timer = s.timer := rfl
@[simp] theorem State.setCommissioning_held (s : State) (x : Commissioning) : (s.setCommissioning x).held = s.held := rfl
@[simp] theorem State.setCommissioning_markers (s : State) (x : Commissioning) : (s.setCommissioning x).markers = s.markers := rfl
@[simp] theorem State.setCommissioning_commissioning (s : State) (x : Commissioning) : (s.setCommissioning x).commissioning = x := rfl
@[simp] theorem State.setCommissioning_queue (s : State) (x : Commissioning) : (s.setCommissioning x).queue = s.queue := rfl
@[simp] theorem State.setCommissioning_monitor (s : State) (x : Commissioning) : (s.setCommissioning x).monitor = s.monitor := rfl
@[simp] theorem State.setCommissioning_attention (s : State) (x : Commissioning) : (s.setCommissioning x).attention = s.attention := rfl
@[simp] theorem State.setCommissioning_port (s : State) (x : Commissioning) : (s.setCommissioning x).port = s.port := rfl
@[simp] theorem State.setCommissioning_network (s : State) (x : Commissioning) : (s.setCommissioning x).network = s.network := rfl
@[simp] theorem State.setCommissioning_air (s : State) (x : Commissioning) : (s.setCommissioning x).air = s.air := rfl
@[simp] theorem State.setCommissioning_choices (s : State) (x : Commissioning) : (s.setCommissioning x).choices = s.choices := rfl
@[simp] theorem State.setCommissioning_pending (s : State) (x : Commissioning) : (s.setCommissioning x).pending = s.pending := rfl

@[simp] theorem State.setQueue_records (s : State) (x : List QueueEntry) : (s.setQueue x).records = s.records := rfl
@[simp] theorem State.setQueue_cursor (s : State) (x : List QueueEntry) : (s.setQueue x).cursor = s.cursor := rfl
@[simp] theorem State.setQueue_zones (s : State) (x : List QueueEntry) : (s.setQueue x).zones = s.zones := rfl
@[simp] theorem State.setQueue_timer (s : State) (x : List QueueEntry) : (s.setQueue x).timer = s.timer := rfl
@[simp] theorem State.setQueue_held (s : State) (x : List QueueEntry) : (s.setQueue x).held = s.held := rfl
@[simp] theorem State.setQueue_markers (s : State) (x : List QueueEntry) : (s.setQueue x).markers = s.markers := rfl
@[simp] theorem State.setQueue_commissioning (s : State) (x : List QueueEntry) : (s.setQueue x).commissioning = s.commissioning := rfl
@[simp] theorem State.setQueue_queue (s : State) (x : List QueueEntry) : (s.setQueue x).queue = x := rfl
@[simp] theorem State.setQueue_monitor (s : State) (x : List QueueEntry) : (s.setQueue x).monitor = s.monitor := rfl
@[simp] theorem State.setQueue_attention (s : State) (x : List QueueEntry) : (s.setQueue x).attention = s.attention := rfl
@[simp] theorem State.setQueue_port (s : State) (x : List QueueEntry) : (s.setQueue x).port = s.port := rfl
@[simp] theorem State.setQueue_network (s : State) (x : List QueueEntry) : (s.setQueue x).network = s.network := rfl
@[simp] theorem State.setQueue_air (s : State) (x : List QueueEntry) : (s.setQueue x).air = s.air := rfl
@[simp] theorem State.setQueue_choices (s : State) (x : List QueueEntry) : (s.setQueue x).choices = s.choices := rfl
@[simp] theorem State.setQueue_pending (s : State) (x : List QueueEntry) : (s.setQueue x).pending = s.pending := rfl

@[simp] theorem State.setMonitor_records (s : State) (x : Monitor) : (s.setMonitor x).records = s.records := rfl
@[simp] theorem State.setMonitor_cursor (s : State) (x : Monitor) : (s.setMonitor x).cursor = s.cursor := rfl
@[simp] theorem State.setMonitor_zones (s : State) (x : Monitor) : (s.setMonitor x).zones = s.zones := rfl
@[simp] theorem State.setMonitor_timer (s : State) (x : Monitor) : (s.setMonitor x).timer = s.timer := rfl
@[simp] theorem State.setMonitor_held (s : State) (x : Monitor) : (s.setMonitor x).held = s.held := rfl
@[simp] theorem State.setMonitor_markers (s : State) (x : Monitor) : (s.setMonitor x).markers = s.markers := rfl
@[simp] theorem State.setMonitor_commissioning (s : State) (x : Monitor) : (s.setMonitor x).commissioning = s.commissioning := rfl
@[simp] theorem State.setMonitor_queue (s : State) (x : Monitor) : (s.setMonitor x).queue = s.queue := rfl
@[simp] theorem State.setMonitor_monitor (s : State) (x : Monitor) : (s.setMonitor x).monitor = x := rfl
@[simp] theorem State.setMonitor_attention (s : State) (x : Monitor) : (s.setMonitor x).attention = s.attention := rfl
@[simp] theorem State.setMonitor_port (s : State) (x : Monitor) : (s.setMonitor x).port = s.port := rfl
@[simp] theorem State.setMonitor_network (s : State) (x : Monitor) : (s.setMonitor x).network = s.network := rfl
@[simp] theorem State.setMonitor_air (s : State) (x : Monitor) : (s.setMonitor x).air = s.air := rfl
@[simp] theorem State.setMonitor_choices (s : State) (x : Monitor) : (s.setMonitor x).choices = s.choices := rfl
@[simp] theorem State.setMonitor_pending (s : State) (x : Monitor) : (s.setMonitor x).pending = s.pending := rfl

@[simp] theorem State.setAttention_records (s : State) (x : Attention) : (s.setAttention x).records = s.records := rfl
@[simp] theorem State.setAttention_cursor (s : State) (x : Attention) : (s.setAttention x).cursor = s.cursor := rfl
@[simp] theorem State.setAttention_zones (s : State) (x : Attention) : (s.setAttention x).zones = s.zones := rfl
@[simp] theorem State.setAttention_timer (s : State) (x : Attention) : (s.setAttention x).timer = s.timer := rfl
@[simp] theorem State.setAttention_held (s : State) (x : Attention) : (s.setAttention x).held = s.held := rfl
@[simp] theorem State.setAttention_markers (s : State) (x : Attention) : (s.setAttention x).markers = s.markers := rfl
@[simp] theorem State.setAttention_commissioning (s : State) (x : Attention) : (s.setAttention x).commissioning = s.commissioning := rfl
@[simp] theorem State.setAttention_queue (s : State) (x : Attention) : (s.setAttention x).queue = s.queue := rfl
@[simp] theorem State.setAttention_monitor (s : State) (x : Attention) : (s.setAttention x).monitor = s.monitor := rfl
@[simp] theorem State.setAttention_attention (s : State) (x : Attention) : (s.setAttention x).attention = x := rfl
@[simp] theorem State.setAttention_port (s : State) (x : Attention) : (s.setAttention x).port = s.port := rfl
@[simp] theorem State.setAttention_network (s : State) (x : Attention) : (s.setAttention x).network = s.network := rfl
@[simp] theorem State.setAttention_air (s : State) (x : Attention) : (s.setAttention x).air = s.air := rfl
@[simp] theorem State.setAttention_choices (s : State) (x : Attention) : (s.setAttention x).choices = s.choices := rfl
@[simp] theorem State.setAttention_pending (s : State) (x : Attention) : (s.setAttention x).pending = s.pending := rfl

@[simp] theorem State.setPort_records (s : State) (x : Port) : (s.setPort x).records = s.records := rfl
@[simp] theorem State.setPort_cursor (s : State) (x : Port) : (s.setPort x).cursor = s.cursor := rfl
@[simp] theorem State.setPort_zones (s : State) (x : Port) : (s.setPort x).zones = s.zones := rfl
@[simp] theorem State.setPort_timer (s : State) (x : Port) : (s.setPort x).timer = s.timer := rfl
@[simp] theorem State.setPort_held (s : State) (x : Port) : (s.setPort x).held = s.held := rfl
@[simp] theorem State.setPort_markers (s : State) (x : Port) : (s.setPort x).markers = s.markers := rfl
@[simp] theorem State.setPort_commissioning (s : State) (x : Port) : (s.setPort x).commissioning = s.commissioning := rfl
@[simp] theorem State.setPort_queue (s : State) (x : Port) : (s.setPort x).queue = s.queue := rfl
@[simp] theorem State.setPort_monitor (s : State) (x : Port) : (s.setPort x).monitor = s.monitor := rfl
@[simp] theorem State.setPort_attention (s : State) (x : Port) : (s.setPort x).attention = s.attention := rfl
@[simp] theorem State.setPort_port (s : State) (x : Port) : (s.setPort x).port = x := rfl
@[simp] theorem State.setPort_network (s : State) (x : Port) : (s.setPort x).network = s.network := rfl
@[simp] theorem State.setPort_air (s : State) (x : Port) : (s.setPort x).air = s.air := rfl
@[simp] theorem State.setPort_choices (s : State) (x : Port) : (s.setPort x).choices = s.choices := rfl
@[simp] theorem State.setPort_pending (s : State) (x : Port) : (s.setPort x).pending = s.pending := rfl

@[simp] theorem State.setNetwork_records (s : State) (x : Network) : (s.setNetwork x).records = s.records := rfl
@[simp] theorem State.setNetwork_cursor (s : State) (x : Network) : (s.setNetwork x).cursor = s.cursor := rfl
@[simp] theorem State.setNetwork_zones (s : State) (x : Network) : (s.setNetwork x).zones = s.zones := rfl
@[simp] theorem State.setNetwork_timer (s : State) (x : Network) : (s.setNetwork x).timer = s.timer := rfl
@[simp] theorem State.setNetwork_held (s : State) (x : Network) : (s.setNetwork x).held = s.held := rfl
@[simp] theorem State.setNetwork_markers (s : State) (x : Network) : (s.setNetwork x).markers = s.markers := rfl
@[simp] theorem State.setNetwork_commissioning (s : State) (x : Network) : (s.setNetwork x).commissioning = s.commissioning := rfl
@[simp] theorem State.setNetwork_queue (s : State) (x : Network) : (s.setNetwork x).queue = s.queue := rfl
@[simp] theorem State.setNetwork_monitor (s : State) (x : Network) : (s.setNetwork x).monitor = s.monitor := rfl
@[simp] theorem State.setNetwork_attention (s : State) (x : Network) : (s.setNetwork x).attention = s.attention := rfl
@[simp] theorem State.setNetwork_port (s : State) (x : Network) : (s.setNetwork x).port = s.port := rfl
@[simp] theorem State.setNetwork_network (s : State) (x : Network) : (s.setNetwork x).network = x := rfl
@[simp] theorem State.setNetwork_air (s : State) (x : Network) : (s.setNetwork x).air = s.air := rfl
@[simp] theorem State.setNetwork_choices (s : State) (x : Network) : (s.setNetwork x).choices = s.choices := rfl
@[simp] theorem State.setNetwork_pending (s : State) (x : Network) : (s.setNetwork x).pending = s.pending := rfl

@[simp] theorem State.setAir_records (s : State) (x : Option Transmission) : (s.setAir x).records = s.records := rfl
@[simp] theorem State.setAir_cursor (s : State) (x : Option Transmission) : (s.setAir x).cursor = s.cursor := rfl
@[simp] theorem State.setAir_zones (s : State) (x : Option Transmission) : (s.setAir x).zones = s.zones := rfl
@[simp] theorem State.setAir_timer (s : State) (x : Option Transmission) : (s.setAir x).timer = s.timer := rfl
@[simp] theorem State.setAir_held (s : State) (x : Option Transmission) : (s.setAir x).held = s.held := rfl
@[simp] theorem State.setAir_markers (s : State) (x : Option Transmission) : (s.setAir x).markers = s.markers := rfl
@[simp] theorem State.setAir_commissioning (s : State) (x : Option Transmission) : (s.setAir x).commissioning = s.commissioning := rfl
@[simp] theorem State.setAir_queue (s : State) (x : Option Transmission) : (s.setAir x).queue = s.queue := rfl
@[simp] theorem State.setAir_monitor (s : State) (x : Option Transmission) : (s.setAir x).monitor = s.monitor := rfl
@[simp] theorem State.setAir_attention (s : State) (x : Option Transmission) : (s.setAir x).attention = s.attention := rfl
@[simp] theorem State.setAir_port (s : State) (x : Option Transmission) : (s.setAir x).port = s.port := rfl
@[simp] theorem State.setAir_network (s : State) (x : Option Transmission) : (s.setAir x).network = s.network := rfl
@[simp] theorem State.setAir_air (s : State) (x : Option Transmission) : (s.setAir x).air = x := rfl
@[simp] theorem State.setAir_choices (s : State) (x : Option Transmission) : (s.setAir x).choices = s.choices := rfl
@[simp] theorem State.setAir_pending (s : State) (x : Option Transmission) : (s.setAir x).pending = s.pending := rfl

@[simp] theorem State.setChoices_records (s : State) (x : Nat) : (s.setChoices x).records = s.records := rfl
@[simp] theorem State.setChoices_cursor (s : State) (x : Nat) : (s.setChoices x).cursor = s.cursor := rfl
@[simp] theorem State.setChoices_zones (s : State) (x : Nat) : (s.setChoices x).zones = s.zones := rfl
@[simp] theorem State.setChoices_timer (s : State) (x : Nat) : (s.setChoices x).timer = s.timer := rfl
@[simp] theorem State.setChoices_held (s : State) (x : Nat) : (s.setChoices x).held = s.held := rfl
@[simp] theorem State.setChoices_markers (s : State) (x : Nat) : (s.setChoices x).markers = s.markers := rfl
@[simp] theorem State.setChoices_commissioning (s : State) (x : Nat) : (s.setChoices x).commissioning = s.commissioning := rfl
@[simp] theorem State.setChoices_queue (s : State) (x : Nat) : (s.setChoices x).queue = s.queue := rfl
@[simp] theorem State.setChoices_monitor (s : State) (x : Nat) : (s.setChoices x).monitor = s.monitor := rfl
@[simp] theorem State.setChoices_attention (s : State) (x : Nat) : (s.setChoices x).attention = s.attention := rfl
@[simp] theorem State.setChoices_port (s : State) (x : Nat) : (s.setChoices x).port = s.port := rfl
@[simp] theorem State.setChoices_network (s : State) (x : Nat) : (s.setChoices x).network = s.network := rfl
@[simp] theorem State.setChoices_air (s : State) (x : Nat) : (s.setChoices x).air = s.air := rfl
@[simp] theorem State.setChoices_choices (s : State) (x : Nat) : (s.setChoices x).choices = x := rfl
@[simp] theorem State.setChoices_pending (s : State) (x : Nat) : (s.setChoices x).pending = s.pending := rfl

@[simp] theorem State.setPending_records (s : State) (x : List Instr) : (s.setPending x).records = s.records := rfl
@[simp] theorem State.setPending_cursor (s : State) (x : List Instr) : (s.setPending x).cursor = s.cursor := rfl
@[simp] theorem State.setPending_zones (s : State) (x : List Instr) : (s.setPending x).zones = s.zones := rfl
@[simp] theorem State.setPending_timer (s : State) (x : List Instr) : (s.setPending x).timer = s.timer := rfl
@[simp] theorem State.setPending_held (s : State) (x : List Instr) : (s.setPending x).held = s.held := rfl
@[simp] theorem State.setPending_markers (s : State) (x : List Instr) : (s.setPending x).markers = s.markers := rfl
@[simp] theorem State.setPending_commissioning (s : State) (x : List Instr) : (s.setPending x).commissioning = s.commissioning := rfl
@[simp] theorem State.setPending_queue (s : State) (x : List Instr) : (s.setPending x).queue = s.queue := rfl
@[simp] theorem State.setPending_monitor (s : State) (x : List Instr) : (s.setPending x).monitor = s.monitor := rfl
@[simp] theorem State.setPending_attention (s : State) (x : List Instr) : (s.setPending x).attention = s.attention := rfl
@[simp] theorem State.setPending_port (s : State) (x : List Instr) : (s.setPending x).port = s.port := rfl
@[simp] theorem State.setPending_network (s : State) (x : List Instr) : (s.setPending x).network = s.network := rfl
@[simp] theorem State.setPending_air (s : State) (x : List Instr) : (s.setPending x).air = s.air := rfl
@[simp] theorem State.setPending_choices (s : State) (x : List Instr) : (s.setPending x).choices = s.choices := rfl
@[simp] theorem State.setPending_pending (s : State) (x : List Instr) : (s.setPending x).pending = x := rfl

end Sys2Proof.Machine
end

