-- ==== Sys2Proof/Laws/Ops.lean ====
section
/-! SUPPORT. What each shared operation of Machine/Ops.lean can do, one lemma for each. -/

namespace Sys2Proof.Machine

/-! ### Records and zones -/

@[simp] theorem State.rec?_setRecords (s : State) (x : Tbl Record) (h : Nat) : (s.setRecords x).rec? h = Tbl.get x h := rfl

@[simp] theorem State.zone?_setZones (s : State) (x : Tbl Zone) (z : Nat) : (s.setZones x).zone? z = Tbl.get x z := rfl

/-- A change of record h changes the records alone. -/
theorem State.modRec_eq (s : State) (h : Nat) (f : Record → Record) :
    s.modRec h f = s.setRecords (s.modRec h f).records := by
  unfold State.modRec; split <;> rfl

/-- A change of record h is read at h and nowhere else. -/
theorem State.rec?_modRec (s : State) (h : Nat) (f : Record → Record) (g : Nat) :
    (s.modRec h f).rec? g = if g = h then (s.rec? h).map f else s.rec? g := by
  unfold State.modRec
  cases hr : s.rec? h with
  | none =>
    split_ifs with hg
    · subst hg; simp [hr]
    · rfl
  | some r => simp [Tbl.get_set, State.rec?]

@[simp] theorem State.rec?_modRec_same (s : State) (h : Nat) (f : Record → Record) :
    (s.modRec h f).rec? h = (s.rec? h).map f := by simp [State.rec?_modRec]

theorem State.modRec_some {s : State} {h : Nat} {r : Record} (f : Record → Record) (hr : s.rec? h = some r) :
    s.modRec h f = s.setRecords (Tbl.set s.records h (f r)) := by
  simp [State.modRec, hr]

theorem State.modRec_none {s : State} {h : Nat} (f : Record → Record) (hr : s.rec? h = none) : s.modRec h f = s := by
  simp [State.modRec, hr]

/-- A change of zone z changes the Zone Table alone. -/
theorem State.modZone_eq (s : State) (z : Nat) (f : Zone → Zone) : s.modZone z f = s.setZones (s.modZone z f).zones := by
  unfold State.modZone; split <;> rfl

/-- A change of zone z is read at z and nowhere else. -/
theorem State.zone?_modZone (s : State) (z : Nat) (f : Zone → Zone) (y : Nat) :
    (s.modZone z f).zone? y = if y = z then (s.zone? z).map f else s.zone? y := by
  unfold State.modZone
  cases hz : s.zone? z with
  | none =>
    split_ifs with hy
    · subst hy; simp [hz]
    · rfl
  | some zn => simp [Tbl.get_set, State.zone?]

/-- A zone set in a state keeps its other fields (R49). -/
theorem State.zone?_setZoneState (s : State) (z : Nat) (st : ZoneState) (y : Nat) :
    (s.setZoneState z st).zone? y = if y = z then (s.zone? z).map (fun zn => { zn with state := st }) else s.zone? y :=
  State.zone?_modZone s z _ y

/-! ### Attention and flags -/

/-- A posting changes the Attention Unit alone. -/
theorem State.post_eq (s : State) (t : Target) (m : Mark) (u : Bool) :
    s.post t m u = s.setAttention (s.attention.post t m u) := rfl

/-- A raised flag changes the Attention Unit alone. -/
theorem State.raise_eq (s : State) (f : Flag) : s.raise f = s.setAttention (s.attention.raise f) := rfl

@[simp] theorem State.rec?_post (s : State) (t : Target) (m : Mark) (u : Bool) (h : Nat) :
    (s.post t m u).rec? h = s.rec? h := rfl

@[simp] theorem State.rec?_raise (s : State) (f : Flag) (h : Nat) : (s.raise f).rec? h = s.rec? h := rfl

/-- A posting touches the entries alone, and only when it is kept (R164). -/
theorem Attention.post_eq (a : Attention) (t : Target) (m : Mark) (u : Bool) :
    a.post t m u = { a with entries := if a.keeps m then applyPosting a.entries t m u else a.entries } := by
  unfold Attention.post; split <;> rfl

/-! ### The Downlink Queue -/

/-- A purge changes the queue alone (R145). -/
theorem State.purgeDest_eq (s : State) (h : Nat) :
    s.purgeDest h = s.setQueue (s.queue.filter fun e => e.dest != h) := rfl

/-- A purge by first hop changes the queue alone (R146). -/
theorem State.purgeHop_eq (s : State) (h : Nat) :
    s.purgeHop h = s.setQueue (s.queue.filter fun e => s.firstHop e.dest != h) := rfl

/-- A request changes the queue and, when it is discarded, QUEUE_OVERFLOW (R139 to R142). -/
theorem State.request_cases (s : State) (d : Nat) (m : Msg) :
    (s.admits d m = false ∧ s.request d m = s)
      ∨ (s.admits d m = true ∧ (insertRequest s.queue { dest := d, msg := m }).2 = false
          ∧ s.request d m = s.setQueue (insertRequest s.queue { dest := d, msg := m }).1)
      ∨ (s.admits d m = true ∧ (insertRequest s.queue { dest := d, msg := m }).2 = true
          ∧ s.request d m = (s.setQueue s.queue).raise .queueOverflow) := by
  unfold State.request
  cases ha : s.admits d m with
  | false => simp
  | true =>
    cases hd : (insertRequest s.queue { dest := d, msg := m }).2 with
    | false => simp [hd]
    | true =>
      have : (insertRequest s.queue { dest := d, msg := m }).1 = s.queue := by
        unfold insertRequest at hd ⊢
        split_ifs at hd ⊢ <;> simp_all
      simp [hd, this]

@[simp] theorem State.request_records (s : State) (d : Nat) (m : Msg) : (s.request d m).records = s.records := by
  rcases s.request_cases d m with ⟨_, h⟩ | ⟨_, _, h⟩ | ⟨_, _, h⟩ <;> rw [h] <;> rfl

@[simp] theorem State.rec?_request (s : State) (d : Nat) (m : Msg) (h : Nat) : (s.request d m).rec? h = s.rec? h := by
  simp [State.rec?]

/-- What an admitted request makes of the queue (R140 to R142). -/
theorem insertRequest_cases (q : List QueueEntry) (e : QueueEntry) :
    ((∃ x ∈ q, x.samePair e = true) ∧ insertRequest q e = (q.map fun x => if x.samePair e then e else x, false))
      ∨ ((∀ x ∈ q, x.samePair e = false) ∧ q.length < 24 ∧ insertRequest q e = (q ++ [e], false))
      ∨ ((∀ x ∈ q, x.samePair e = false) ∧ 24 ≤ q.length ∧ e.msg.rank < worstRank q
          ∧ insertRequest q e = (dropLastOfRank q (worstRank q) ++ [e], false))
      ∨ ((∀ x ∈ q, x.samePair e = false) ∧ 24 ≤ q.length ∧ worstRank q ≤ e.msg.rank ∧ insertRequest q e = (q, true)) := by
  unfold insertRequest
  by_cases h1 : q.any (fun x => x.samePair e) = true
  · left
    rw [if_pos h1]
    exact ⟨by simpa using h1, rfl⟩
  · right
    have h1' : ∀ x ∈ q, x.samePair e = false := by simpa using h1
    rw [if_neg h1]
    by_cases h2 : q.length < 24
    · left; rw [if_pos h2]; exact ⟨h1', h2, rfl⟩
    · right
      rw [if_neg h2]
      by_cases h3 : worstRank q > e.msg.rank
      · left; rw [if_pos h3]; exact ⟨h1', by omega, h3, rfl⟩
      · right; rw [if_neg h3]; exact ⟨h1', by omega, by omega, rfl⟩

/-! ### The request exchange -/

/-- A request written while the port is WORKING is discarded (R174). -/
theorem State.serve_working {s : State} (hw : s.port.state = .working) (kind : Byte) (body : State → State × Reply) :
    s.serve kind body = .next s.discardRequest := by
  simp [State.serve, hw]

/-- A request written in IDLE or ANSWER_READY is taken, carried out and answered (R174). -/
theorem State.serve_taken {s : State} (hw : s.port.state ≠ .working) (kind : Byte) (body : State → State × Reply) :
    s.serve kind body = .next ((body s.takeRequest).1.answer kind (body s.takeRequest).2) := by
  unfold State.serve
  cases h : s.port.state with
  | working => exact absurd h hw
  | idle => rfl
  | answerReady a => rfl

/-- A request that reads the part leaves everything but the port (R174). -/
theorem State.serveRead_taken {s : State} (hw : s.port.state ≠ .working) (kind : Byte) (reply : State → Reply) :
    s.serveRead kind reply = .next (s.setPort (s.port.answering kind (reply s.takeRequest))) := by
  unfold State.serveRead
  rw [State.serve_taken hw]
  rfl

end Sys2Proof.Machine
end

