-- ==== Sys2Proof/Laws/Made.lean ====
section
/-! SUPPORT. What the composite operations over zones, links and reports can do, said once: every state they lead to is made
from the first by record changes that keep a record's body, zone changes, postings, flags, requests, purges and vacated
slots. An invariant that these keep is kept by all of them. -/

namespace Sys2Proof.Machine

/-- A change of a record that leaves what the registry and the Lane Allocator hold of it, and keeps its link block in range. -/
structure Record.Keeps (r t : Record) : Prop where
  serial : t.serial = r.serial
  kind : t.kind = r.kind
  zone : t.zone = r.zone
  member : t.member = r.member
  settings : t.settings = r.settings
  version : t.version = r.version
  current : t.current = r.current
  next : t.next = r.next
  isMember : t.isMember = true → r.isMember = true
  link : r.link.InRange → t.link.InRange

/-- `Made s t`: t is made from s by the primitive changes. -/
inductive Made (s : State) : State → Prop where
  | start : Made s s
  | record {t : State} (m : Made s t) (h : Nat) (f : Record → Record)
      (k : ∀ r, t.rec? h = some r → Record.Keeps r (f r)) : Made s (t.modRec h f)
  | zone {t : State} (m : Made s t) (z : Nat) (f : Zone → Zone) : Made s (t.modZone z f)
  | post {t : State} (m : Made s t) (x : Target) (mark : Mark) (u : Bool) : Made s (t.post x mark u)
  | raise {t : State} (m : Made s t) (f : Flag) : Made s (t.raise f)
  | request {t : State} (m : Made s t) (d : Nat) (msg : Msg) : Made s (t.request d msg)
  | purge {t : State} (m : Made s t) (p : QueueEntry → Bool) : Made s (t.setQueue (t.queue.filter p))
  | drop {t : State} (m : Made s t) (h : Nat) : Made s (t.dropRecord h)

theorem Made.trans {s t u : State} (a : Made s t) (b : Made t u) : Made s u := by
  induction b with
  | start => exact a
  | record _ h f k ih => exact ih.record h f k
  | zone _ z f ih => exact ih.zone z f
  | post _ x mark v ih => exact ih.post x mark v
  | raise _ f ih => exact ih.raise f
  | request _ d msg ih => exact ih.request d msg
  | purge _ p ih => exact ih.purge p
  | drop _ h ih => exact ih.drop h

theorem Made.foldl {α : Type} {op : State → α → State} (h : ∀ s a, Made s (op s a)) (l : List α) (s : State) :
    Made s (l.foldl op s) := by
  induction l generalizing s with
  | nil => exact .start
  | cons a l ih => exact (h s a).trans (ih (op s a))

/-- A further change made under a condition. -/
theorem Made.cond {s t u : State} (c : Prop) [Decidable c] (m : Made s t) (k : Made t u) : Made s (if c then u else t) := by
  split
  · exact m.trans k
  · exact m

/-! ### The primitives that have names -/

theorem Made.setZoneState (s : State) (z : Nat) (st : ZoneState) : Made s (s.setZoneState z st) := Made.start.zone z _

theorem Made.zoneEnters (s : State) (z : Nat) (st : ZoneState) : Made s (s.zoneEnters z st) :=
  (Made.setZoneState s z st).post _ _ _

theorem Made.zoneClears (s : State) (z : Nat) : Made s (s.zoneClears z) := (Made.setZoneState s z _).post _ _ _

theorem Made.purgeDest (s : State) (h : Nat) : Made s (s.purgeDest h) := Made.start.purge _

theorem Made.purgeHop (s : State) (h : Nat) : Made s (s.purgeHop h) := Made.start.purge _

theorem Made.bumpChildVersion (s : State) (p : Nat) : Made s (s.bumpChildVersion p) :=
  Made.start.record p _ fun _ _ => ⟨rfl, rfl, rfl, rfl, rfl, rfl, rfl, rfl, id, id⟩

/-- A change of a record's condition block alone. -/
theorem Made.setCond (s : State) (h : Nat) (f : Record → Condition) :
    Made s (s.modRec h fun r => { r with cond := f r }) :=
  Made.start.record h _ fun _ _ => ⟨rfl, rfl, rfl, rfl, rfl, rfl, rfl, rfl, id, id⟩

theorem Made.setLink (s : State) (h : Nat) (st : LinkState) : Made s (s.setLink h st) :=
  Made.start.record h _ fun _ _ =>
    ⟨rfl, rfl, rfl, rfl, rfl, rfl, rfl, rfl, id, fun k => ⟨k.lqf, k.missRun, k.history, k.live, k.snap⟩⟩

/-! ### Zones -/

theorem Made.prealarmTest (s : State) (z : Nat) : Made s (s.prealarmTest z) := by
  unfold State.prealarmTest
  split
  · split
    · exact Made.zoneClears s z
    · exact .start
  · exact .start

theorem Made.rearmKnocker (s : State) (h : Nat) : Made s (s.rearmKnocker h) :=
  (Made.start.request h .rearm).trans (Made.setCond _ h _)

theorem Made.offerAlarm (s : State) (z h : Nat) (k : Kind) : Made s (s.offerAlarm z h k) := by
  unfold State.offerAlarm
  split
  · exact .start
  · split
    · exact .start
    · rename_i st rearm _
      cases rearm with
      | true => exact (Made.zoneEnters s z st).trans (Made.rearmKnocker _ h)
      | false => exact Made.zoneEnters s z st

theorem Made.offerPrealarm (s : State) (z : Nat) : Made s (s.offerPrealarm z) := by
  unfold State.offerPrealarm
  split
  · split
    · exact Made.zoneEnters s z _
    · exact .start
  · exact .start

theorem Made.applyFire (s : State) (h : Nat) (fs : FireState) : Made s (s.applyFire h fs) := by
  unfold State.applyFire
  split
  · exact .start
  · rename_i r _
    dsimp only
    generalize (if (r.kind == Kind.callPoint && fs == FireState.prealarm) = true then FireState.none else fs) = g
    split
    · exact .start
    · have m := Made.setCond s h fun r =>
        { r.cond with fire := g, latched := r.cond.latched || g == .alarm }
      split
      · exact (m.post _ _ _).cond _ (Made.offerAlarm _ _ _ _)
      · exact (m.cond _ (Made.offerPrealarm _ _)).cond _ (Made.prealarmTest _ _)
      · exact (m.post _ _ _).cond _ (Made.prealarmTest _ _)

theorem Made.disableZone (s : State) (z : Nat) : Made s (s.disableZone z) := Made.start.zone z _

theorem Made.enableZone (s : State) (z : Nat) : Made s (s.enableZone z) := by
  unfold State.enableZone
  refine Made.cond _ (((Made.start (s := s)).zone z _).trans (Made.foldl (fun s m => ?_) _ _)) (Made.offerPrealarm _ _)
  split
  · split
    · exact Made.offerAlarm _ _ _ _
    · exact .start
  · exact .start

theorem Made.setDisabled (s : State) (h : Nat) (d : Bool) : Made s (s.modRec h fun r => { r with disabled := d }) :=
  Made.start.record h _ fun _ _ => ⟨rfl, rfl, rfl, rfl, rfl, rfl, rfl, rfl, id, id⟩

theorem Made.disableRecord (s : State) (h : Nat) : Made s (s.disableRecord h) := by
  unfold State.disableRecord
  split
  · exact .start
  · exact (Made.setDisabled s h true).trans (Made.prealarmTest _ _)

theorem Made.enableRecord (s : State) (h : Nat) : Made s (s.enableRecord h) := by
  unfold State.enableRecord
  have m := Made.setDisabled s h false
  dsimp only
  split
  · exact m
  · split
    · split
      · exact m.trans (Made.offerAlarm _ _ _ _)
      · exact m.trans (Made.offerPrealarm _ _)
      · exact m
    · exact m

/-! ### Vacating, cascades -/

theorem Made.vacate (s : State) (h : Nat) : Made s (s.vacate h) := by
  unfold State.vacate
  split
  · exact .start
  · rename_i r _
    exact ((((Made.start.cond _ (Made.bumpChildVersion s _)).drop h).cond _ (Made.prealarmTest _ _)).trans
      (Made.purgeDest _ h)).post _ _ _

theorem Made.goUnreachable (fuel : Nat) (s : State) (h : Nat) : Made s (State.goUnreachable fuel s h) := by
  induction fuel generalizing s h with
  | zero => exact .start
  | succ fuel ih =>
    unfold State.goUnreachable
    split
    · exact .start
    · rename_i r _
      dsimp only
      have m1 : Made s (if r.canGoUnreachable = true then
          ((s.setLink h .unreachable).post (.record h) .linkOnset).purgeDest h else s) := by
        split
        · exact ((Made.setLink s h _).post _ _ _).trans (Made.purgeDest _ h)
        · exact .start
      generalize (if r.canGoUnreachable = true then
          ((s.setLink h .unreachable).post (.record h) .linkOnset).purgeDest h else s) = t at m1 ⊢
      have m2 : Made s (if r.isRelay = true then (t.children h).foldl (State.goUnreachable fuel) t else t) := by
        split
        · exact m1.trans (Made.foldl ih _ _)
        · exact m1
      split
      · exact m2.trans (Made.vacate _ h)
      · exact m2

theorem Made.cutChildren (s : State) (h : Nat) : Made s (s.cutChildren h) := Made.foldl (Made.goUnreachable 2) _ _

theorem Made.comeBack (fuel : Nat) (s : State) (h : Nat) : Made s (State.comeBack fuel s h) := by
  induction fuel generalizing s h with
  | zero => exact .start
  | succ fuel ih =>
    unfold State.comeBack
    split
    · exact .start
    · rename_i r _
      dsimp only
      have m1 : Made s (if (r.isActive && r.link.state == .unreachable && !s.chainBroken h) = true then
          s.modRec h fun r => { r with link := { r.link with state := .unheard, missRun := 0 } } else s) := by
        split
        · exact Made.start.record h _ fun _ _ =>
            ⟨rfl, rfl, rfl, rfl, rfl, rfl, rfl, rfl, id, fun k => ⟨k.lqf, Nat.zero_le _, k.history, k.live, k.snap⟩⟩
        · exact .start
      generalize (if (r.isActive && r.link.state == .unreachable && !s.chainBroken h) = true then
          s.modRec h fun r => { r with link := { r.link with state := .unheard, missRun := 0 } } else s) = t at m1 ⊢
      split
      · exact m1.trans (Made.foldl ih _ _)
      · exact m1

theorem Made.restoreChildren (s : State) (h : Nat) : Made s (s.restoreChildren h) := Made.foldl (Made.comeBack 2) _ _

theorem Made.testReach (s : State) (h : Nat) : Made s (s.testReach h) := by
  unfold State.testReach
  split
  · exact .start
  · split_ifs
    · exact .start
    · exact Made.goUnreachable 3 s h
    · exact Made.comeBack 3 s h
    · exact .start

theorem Made.testReachFrom (s : State) (h : Nat) : Made s (s.testReachFrom h) :=
  (Made.testReach s h).trans (Made.foldl Made.testReach _ _)

/-! ### Outcomes -/

/-- The LQF step stays within 0..1008 (R78). -/
theorem lqfStep_le {lqf : Option Nat} {res : Result} {margin : Nat} (hm : margin ≤ 63)
    (h : ∀ q, lqf = some q → q ≤ 1008) : ∀ q, lqfStep lqf res margin = some q → q ≤ 1008 := by
  intro q hq
  unfold lqfStep at hq
  split at hq
  · simp only [Option.some.injEq] at hq; omega
  · simp at hq
  · rename_i p
    have := h p rfl
    simp only [Option.some.injEq] at hq
    omega
  · rename_i p
    have := h p rfl
    simp only [Option.some.injEq] at hq
    omega

/-- An evaluated outcome keeps the link block in range (R77 to R80, R96). -/
theorem LinkBlock.InRange.evaluated {b : LinkBlock} (k : b.InRange) (p : Params) (res : Result) {margin : Nat}
    (hm : margin ≤ 63) : (b.evaluated p res margin).InRange where
  lqf := lqfStep_le hm k.lqf
  missRun := by
    simp only [LinkBlock.evaluated, missRunStep]
    split <;> omega
  history := by
    simp only [LinkBlock.evaluated, historyStep, List.length_take]
    omega
  live := by
    have := k.live
    simp only [LinkBlock.evaluated]
    split_ifs with h
    · cases res <;> simp_all
    · omega
  snap := k.snap

theorem Made.handleLoss (s : State) (h : Nat) (r : Record) : Made s (s.handleLoss h r) := by
  unfold State.handleLoss
  dsimp only
  have m1 := Made.purgeDest s h
  have m2 : Made s (if r.isRelay = true then ((s.purgeDest h).purgeHop h).cutChildren h else s.purgeDest h) := by
    split
    · exact (m1.trans (Made.purgeHop _ h)).trans (Made.cutChildren _ h)
    · exact m1
  split
  · exact m2.trans (Made.vacate _ h)
  · exact m2

theorem Made.linkChanged (s : State) (h : Nat) (r : Record) (a b : LinkState) : Made s (s.linkChanged h r a b) := by
  unfold State.linkChanged
  split
  · exact .start
  · split
    · exact (Made.start.post _ _ _).trans (Made.handleLoss _ h r)
    · dsimp only
      split
      · exact (Made.start.post _ _ _).trans (Made.restoreChildren _ h)
      · exact Made.start.post _ _ _
    · dsimp only
      split
      · exact (Made.start.post _ _ _).trans (Made.restoreChildren _ h)
      · exact Made.start.post _ _ _
    · exact .start

theorem Made.evaluate (s : State) (h : Nat) (res : Result) {margin : Nat} (hm : margin ≤ 63) :
    Made s (s.evaluate h res margin) := by
  unfold State.evaluate
  split
  · exact .start
  · rename_i r hr
    dsimp only
    refine Made.trans ?_ (Made.linkChanged _ h r _ _)
    have m : Made s (s.modRec h fun x => { x with link := r.link.evaluated s.network.params res margin }) :=
      Made.start.record h _ fun x hx => by
        obtain rfl : r = x := by simpa [hr] using hx
        exact ⟨rfl, rfl, rfl, rfl, rfl, rfl, rfl, rfl, id, fun k => k.evaluated _ _ hm⟩
    split
    · exact m.raise _
    · exact m

theorem Made.activate (s : State) (h : Nat) (hp : ∀ r, s.rec? h = some r → r.isPending = true) :
    Made s (s.activate h) := by
  unfold State.activate
  dsimp only
  have m : Made s ((s.modRec h fun r => { r with lifecycle := .active }).post (.record h) .lifecycle) :=
    (Made.start.record h (fun r => { r with lifecycle := .active }) fun r hr =>
      ⟨rfl, rfl, rfl, rfl, rfl, rfl, rfl, rfl, fun _ => by
        have := hp r hr
        simp only [Record.isPending, beq_iff_eq] at this
        simp [Record.isMember, Record.isRetiring, this], id⟩).post _ _ _
  split
  · exact m.trans (Made.goUnreachable 3 _ h)
  · exact m

theorem Made.handOutcome (s : State) (h : Nat) (res : Result) {margin : Nat} (hm : margin ≤ 63) :
    Made s (s.handOutcome h res margin) := by
  unfold State.handOutcome
  split
  · exact .start
  · rename_i r hr
    split
    · exact .start
    · dsimp only
      have m : Made s (if r.isPending = true then s.activate h else s) := by
        split
        · rename_i hp
          exact Made.activate s h fun x hx => by
            obtain rfl : r = x := by simpa [hr] using hx
            exact hp
        · exact .start
      generalize (if r.isPending = true then s.activate h else s) = t at m ⊢
      split
      · exact m
      · exact m.cond _ (Made.evaluate _ h res hm)

theorem marginOf_le (level : Int) : marginOf level ≤ 63 := Nat.min_le_right _ _

/-! ### Reports -/

theorem Made.intakeFaults (s : State) (h : Nat) (fs : FaultSet) : Made s (s.intakeFaults h fs) := by
  unfold State.intakeFaults
  split
  · exact .start
  · rename_i r _
    dsimp only
    have m := Made.setCond s h fun r => { r.cond with faults := fs }
    have m2 : Made s (if fs &&& ~~~r.cond.faults != 0 then
        (s.modRec h fun r => { r with cond := { r.cond with faults := fs } }).post (.record h) .faultOnset
        else s.modRec h fun r => { r with cond := { r.cond with faults := fs } }) := by
      split
      · exact m.post _ _ _
      · exact m
    split
    · exact m2.post _ _ _
    · exact m2

theorem Made.intakeVersion (s : State) (h : Nat) (v : Version) : Made s (s.intakeVersion h v) := by
  unfold State.intakeVersion
  split
  · exact .start
  · have m := Made.setCond s h fun r => { r.cond with reportedVersion := some v }
    split
    · exact .start
    · exact m.request _ _
    · dsimp only
      split_ifs
      · exact m.request _ _
      · exact m.post _ _ _
      · exact m

theorem Made.intake (s : State) (h : Nat) (rep : Report) : Made s (s.intake h rep) :=
  ((((Made.setCond s h _).trans (Made.intakeFaults _ h _)).trans (Made.intakeVersion _ h _)).trans
    (Made.setCond _ h _)).trans (Made.applyFire _ h _)

theorem Made.intakeAlarm (s : State) (o : Nat) (f : FireState) (q : Nat) : Made s (s.intakeAlarm o f q) := by
  unfold State.intakeAlarm
  split
  · exact .start
  · split_ifs
    · exact .start
    · exact Made.start.request _ _
    · exact ((Made.setCond s o _).request _ _).trans (Made.applyFire _ _ _)

theorem Made.measure (s : State) (h : Nat) (offset : Int) : Made s (s.measure h offset) := by
  unfold State.measure
  split
  · exact .start
  · split
    · exact .start
    · have m : Made s (s.modRec h fun r => { r with timing := some (timingStep r.timing offset) }) :=
        Made.start.record h _ fun _ _ => ⟨rfl, rfl, rfl, rfl, rfl, rfl, rfl, rfl, id, id⟩
      dsimp only
      split
      · exact m.request _ _
      · exact m

/-! ### Roll-calls -/

theorem Made.judgeRelay (s : State) (x : Nat) (v : Option Version) : Made s (s.judgeRelay x v).1 := by
  unfold State.judgeRelay
  split
  · exact .start
  · split
    · exact .start
    · rename_i r _ _ route _
      have m : ∀ g : Route, Made s (s.modRec x fun r => { r with route := some g }) := fun g =>
        Made.start.record x _ fun _ _ => ⟨rfl, rfl, rfl, rfl, rfl, rfl, rfl, rfl, id, id⟩
      dsimp only
      split
      · exact (m _).request _ _
      · exact m _

theorem Made.judgeRelays (s : State) (l : List (Nat × Option Version)) : Made s (s.judgeRelays l).1 := by
  induction l generalizing s with
  | nil => exact .start
  | cons e l ih => exact (Made.judgeRelay s e.1 e.2).trans (ih _)

theorem Made.unreported (s : State) (js : List RelayJudgement) (x c : Nat) : Made s (s.unreported js x c) := by
  unfold State.unreported
  split
  · exact .start
  · split
    · exact Made.handOutcome s c .missed (by omega)
    · exact .start

theorem Made.takeEntry (js : List RelayJudgement) (s : State) (e : RollEntry) (he : e.valuesOk = true) :
    Made s (State.takeEntry js s e) := by
  unfold State.takeEntry
  split
  · rename_i hh
    have hm : e.margin ≤ 63 := by
      simp only [RollEntry.valuesOk, hh, Bool.not_true, Bool.false_or, Bool.and_eq_true, decide_eq_true_eq] at he
      exact he.1.1
    exact (Made.handOutcome s _ _ hm).trans (Made.intake _ _ _)
  · exact Made.unreported s js _ _

theorem Made.walk (s : State) (x : Nat) (roll : Option RollCall) : Made s (s.walk x roll) := by
  have hv : ∀ e ∈ s.acceptedEntries x (match roll with | some rc => rc.entries | none => []), e.valuesOk = true := by
    intro e he
    simp only [State.acceptedEntries, List.mem_filter, Bool.and_eq_true] at he
    exact he.2.2
  have hf : ∀ (js : List RelayJudgement) (l : List RollEntry), (∀ e ∈ l, e.valuesOk = true) →
      ∀ t, Made t (l.foldl (State.takeEntry js) t) := by
    intro js l
    induction l with
    | nil => exact fun _ _ => .start
    | cons e l ih =>
      exact fun hv t => (Made.takeEntry js t e (hv e (by simp))).trans (ih (fun a ha => hv a (by simp [ha])) _)
  unfold State.walk
  exact ((Made.judgeRelays s _).trans (hf _ _ hv _)).trans
    (Made.foldl (fun s a => Made.foldl (fun s c => Made.unreported s _ _ c) _ s) _ _)

theorem Made.cellOutcome (s : State) (lane frame : Nat) (acc : Option (Nat × Int)) :
    Made s (s.cellOutcome lane frame acc).1 := by
  unfold State.cellOutcome
  split
  · exact .start
  · split
    · split
      · exact Made.handOutcome s _ _ (marginOf_le _)
      · dsimp only
        split
        · exact Made.handOutcome s _ _ (by omega)
        · exact .start
    · dsimp only
      split
      · exact Made.handOutcome s _ _ (by omega)
      · exact .start

theorem Made.handLeaving (s : State) (h : Nat) : Made s (s.handLeaving h) := by
  unfold State.handLeaving
  split
  · split
    · exact Made.vacate s h
    · exact .start
  · exact .start

/-! ### What the primitives leave -/

/-- The fields outside the records, zones, accepted frames, queue and Attention Unit. -/
structure SameElsewhere (s t : State) : Prop where
  cursor : t.cursor = s.cursor
  timer : t.timer = s.timer
  markers : t.markers = s.markers
  commissioning : t.commissioning = s.commissioning
  monitor : t.monitor = s.monitor
  port : t.port = s.port
  network : t.network = s.network
  air : t.air = s.air
  choices : t.choices = s.choices
  pending : t.pending = s.pending

theorem SameElsewhere.refl (s : State) : SameElsewhere s s := ⟨rfl, rfl, rfl, rfl, rfl, rfl, rfl, rfl, rfl, rfl⟩

theorem SameElsewhere.trans {s t u : State} (a : SameElsewhere s t) (b : SameElsewhere t u) : SameElsewhere s u :=
  ⟨b.1.trans a.1, b.2.trans a.2, b.3.trans a.3, b.4.trans a.4, b.5.trans a.5, b.6.trans a.6, b.7.trans a.7,
    b.8.trans a.8, b.9.trans a.9, b.10.trans a.10⟩

theorem SameElsewhere.modRec (s : State) (h : Nat) (f : Record → Record) : SameElsewhere s (s.modRec h f) := by
  rw [State.modRec_eq]; exact ⟨rfl, rfl, rfl, rfl, rfl, rfl, rfl, rfl, rfl, rfl⟩

theorem SameElsewhere.modZone (s : State) (z : Nat) (f : Zone → Zone) : SameElsewhere s (s.modZone z f) := by
  rw [State.modZone_eq]; exact ⟨rfl, rfl, rfl, rfl, rfl, rfl, rfl, rfl, rfl, rfl⟩

theorem SameElsewhere.request (s : State) (d : Nat) (m : Msg) : SameElsewhere s (s.request d m) := by
  rcases s.request_cases d m with ⟨_, h⟩ | ⟨_, _, h⟩ | ⟨_, _, h⟩ <;> rw [h] <;>
    exact ⟨rfl, rfl, rfl, rfl, rfl, rfl, rfl, rfl, rfl, rfl⟩

/-- The composite operations leave every other field as it stands. -/
theorem Made.sameElsewhere {s t : State} (m : Made s t) : SameElsewhere s t := by
  induction m with
  | start => exact .refl s
  | record _ h f _ ih => exact ih.trans (.modRec _ h f)
  | zone _ z f ih => exact ih.trans (.modZone _ z f)
  | post _ x mark u ih => exact ih.trans ⟨rfl, rfl, rfl, rfl, rfl, rfl, rfl, rfl, rfl, rfl⟩
  | raise _ f ih => exact ih.trans ⟨rfl, rfl, rfl, rfl, rfl, rfl, rfl, rfl, rfl, rfl⟩
  | request _ d msg ih => exact ih.trans (.request _ d msg)
  | purge _ p ih => exact ih.trans ⟨rfl, rfl, rfl, rfl, rfl, rfl, rfl, rfl, rfl, rfl⟩
  | drop _ h ih => exact ih.trans ⟨rfl, rfl, rfl, rfl, rfl, rfl, rfl, rfl, rfl, rfl⟩

end Sys2Proof.Machine
end

