-- ==== Sys2Proof/Laws/PerInstr.lean ====
section
/-! SUPPORT. The family RequestForm: the kind and fields of a request build that request, so no operand is lost between a
command and its frame; a command that is no request has no frame. One lemma per constructor of Instr. -/

namespace Sys2Proof.Laws.RequestForm

open Sys2Proof

@[simp] theorem optNum_map (x : Option Nat) : optNum (x.map .num) = x := by cases x <;> rfl
@[simp] theorem optList_map (x : Option (List Nat)) : optList (x.map .list) = x := by cases x <;> rfl
@[simp] theorem optSigned_map (x : Option Int) : optSigned (x.map .signed) = x := by cases x <;> rfl

/-- A command's kind and fields build the command (Table 10-4). -/
def Statement (i : Instr) : Prop := ∀ k vals, requestFields i = some (k, vals) → buildRequest k vals = some i

theorem powerOnReset : Statement .powerOnReset := nofun
theorem resetPulse : Statement .resetPulse := nofun
theorem answerRead (a : Nat) : Statement (.answerRead a) := nofun
theorem requestDiscarded : Statement .requestDiscarded := nofun
theorem malformedRequest (a : List Byte) : Statement (.malformedRequest a) := nofun
theorem enrol (a : Serial) (b c d e f g h : Nat) : Statement (.enrol a b c d e f g h) := by
  rintro _ _ ⟨⟩; rfl
theorem amend (a : Nat) (b c d e f g h : Option Nat) : Statement (.amend a b c d e f g h) := by
  rintro _ _ ⟨⟩
  show some (Instr.amend a (optNum (b.map .num)) (optNum (c.map .num)) (optNum (d.map .num)) (optNum (e.map .num))
      (optNum (f.map .num)) (optNum (g.map .num)) (optNum (h.map .num))) = _
  simp only [optNum_map]
theorem retire (a : Nat) : Statement (.retire a) := by
  rintro _ _ ⟨⟩; rfl
theorem restore (a : Nat) (b : Serial) (c d e f g h i j k l m n : Nat) :
    Statement (.restore a b c d e f g h i j k l m n) := by
  rintro _ _ ⟨⟩; rfl
theorem readRecord (a : Nat) : Statement (.readRecord a) := by
  rintro _ _ ⟨⟩; rfl
theorem findSerial (a : Serial) : Statement (.findSerial a) := by
  rintro _ _ ⟨⟩; rfl
theorem openZonePage (a : Nat) : Statement (.openZonePage a) := by
  rintro _ _ ⟨⟩; rfl
theorem readNext : Statement .readNext := by
  rintro _ _ ⟨⟩; rfl
theorem defineZone (a b c d : Nat) : Statement (.defineZone a b c d) := by
  rintro _ _ ⟨⟩; rfl
theorem amendZone (a : Nat) (b c d : Option Nat) : Statement (.amendZone a b c d) := by
  rintro _ _ ⟨⟩
  show some (Instr.amendZone a (optNum (b.map .num)) (optNum (c.map .num)) (optNum (d.map .num))) = _
  simp only [optNum_map]
theorem deleteZone (a : Nat) : Statement (.deleteZone a) := by
  rintro _ _ ⟨⟩; rfl
theorem readZone (a : Nat) : Statement (.readZone a) := by
  rintro _ _ ⟨⟩; rfl
theorem resetConditions (a : Nat) : Statement (.resetConditions a) := by
  rintro _ _ ⟨⟩; rfl
theorem readLane (a : Nat) : Statement (.readLane a) := by
  rintro _ _ ⟨⟩; rfl
theorem snapshot : Statement .snapshot := by
  rintro _ _ ⟨⟩; rfl
theorem openCommissioning (a : Serial) (b c : Nat) (d : Serial) (e f g : Nat) :
    Statement (.openCommissioning a b c d e f g) := by
  rintro _ _ ⟨⟩; rfl
theorem closeCommissioning : Statement .closeCommissioning := by
  rintro _ _ ⟨⟩; rfl
theorem readCandidates : Statement .readCandidates := by
  rintro _ _ ⟨⟩; rfl
theorem dismissCandidate (a : Serial) : Statement (.dismissCandidate a) := by
  rintro _ _ ⟨⟩; rfl
theorem readQueue : Statement .readQueue := by
  rintro _ _ ⟨⟩; rfl
theorem changeChannel (a : Nat) : Statement (.changeChannel a) := by
  rintro _ _ ⟨⟩; rfl
theorem readChannel : Statement .readChannel := by
  rintro _ _ ⟨⟩; rfl
theorem readTiming (a : Nat) : Statement (.readTiming a) := by
  rintro _ _ ⟨⟩; rfl
theorem takeAttention : Statement .takeAttention := by
  rintro _ _ ⟨⟩; rfl
theorem setNotify (a : Nat) : Statement (.setNotify a) := by
  rintro _ _ ⟨⟩; rfl
theorem clearNotify (a : Nat) : Statement (.clearNotify a) := by
  rintro _ _ ⟨⟩; rfl
theorem setEdges (a b c d : Option Nat) : Statement (.setEdges a b c d) := by
  rintro _ _ ⟨⟩
  show some (Instr.setEdges (optNum (a.map .num)) (optNum (b.map .num)) (optNum (c.map .num)) (optNum (d.map .num))) = _
  simp only [optNum_map]
theorem ackFlags (a : Nat) : Statement (.ackFlags a) := by
  rintro _ _ ⟨⟩; rfl
theorem setFlagNotify (a : Nat) : Statement (.setFlagNotify a) := by
  rintro _ _ ⟨⟩; rfl
theorem clearFlagNotify (a : Nat) : Statement (.clearFlagNotify a) := by
  rintro _ _ ⟨⟩; rfl
theorem start : Statement .start := by
  rintro _ _ ⟨⟩; rfl
theorem startLockObtained : Statement .startLockObtained := nofun
theorem startLockTimeout : Statement .startLockTimeout := nofun
theorem halt : Statement .halt := by
  rintro _ _ ⟨⟩; rfl
theorem setParameters (a : Option Nat) (b : Option (List Nat)) (c d e f : Option Nat) (g : Option Int) (h i j : Option Nat) :
    Statement (.setParameters a b c d e f g h i j) := by
  rintro _ _ ⟨⟩
  show some (Instr.setParameters (optNum (a.map .num)) (optList (b.map .list)) (optNum (c.map .num)) (optNum
      (d.map .num)) (optNum (e.map .num)) (optNum (f.map .num)) (optSigned (g.map .signed)) (optNum (h.map .num))
      (optNum (i.map .num)) (optNum (j.map .num))) = _
  simp only [optNum_map, optList_map, optSigned_map]
theorem readParameters : Statement .readParameters := by
  rintro _ _ ⟨⟩; rfl
theorem readNetwork : Statement .readNetwork := by
  rintro _ _ ⟨⟩; rfl
theorem readIdentity : Statement .readIdentity := by
  rintro _ _ ⟨⟩; rfl
theorem beacon : Statement .beacon := nofun
theorem uplinkFrameReceived (a : Nat) (b : Int) (c : List Byte) : Statement (.uplinkFrameReceived a b c) := nofun
theorem laneSlotClose : Statement .laneSlotClose := nofun
theorem openSlotClose : Statement .openSlotClose := nofun
theorem downlinkSlot : Statement .downlinkSlot := nofun
theorem frameEnd (a : Int) : Statement (.frameEnd a) := nofun
theorem zoneWindowExpiry (a : Nat) : Statement (.zoneWindowExpiry a) := nofun
theorem retireGraceExpiry (a : Nat) : Statement (.retireGraceExpiry a) := nofun
theorem commissioningWindowExpiry : Statement .commissioningWindowExpiry := nofun
theorem autoChangeover : Statement .autoChangeover := nofun
theorem changeoverComplete : Statement .changeoverComplete := nofun
theorem networkFormed : Statement .networkFormed := nofun
theorem networkHalted : Statement .networkHalted := nofun
theorem hyperframeEnd : Statement .hyperframeEnd := nofun

end Sys2Proof.Laws.RequestForm
end

