-- ==== Sys2Proof/Tests/Slice0.lean ====
section
/-! SUPPORT. Tests: worked examples and tables of the manual (each test names its source), the checks of WellFormed, words
written out from Table 11-2, and for every statement with hypotheses a witness that meets them together. -/

namespace Sys2Proof.Tests

open Sys2Proof Sys2Proof.Machine

/-! ### Small states -/

/-- A link as LINKED with LQF 480. -/
def goodLink : LinkBlock := { LinkBlock.fresh with state := .linked, lqf := some 480 }

/-- A record of a kind at an address with a parent and an allocation. -/
def device (serial : Serial) (k : Kind) (zone member parent : Nat) (a : Option Alloc) : Record :=
  { serial := serial, kind := k, zone := zone, member := member, lifecycle := .active,
    settings := { sensitivity := 2, indicator := .alarmOnly, cadence := 8, parent := parent },
    version := 2, disabled := false, current := a, next := none, link := goodLink, cond := Condition.fresh,
    timing := none, route := freshRoute k 7 }

/-- Relay 1, its child 2, the direct detector 3, the RETIRING detector 4 and the PENDING call point 5. -/
def devices : Tbl Record :=
  [(1, device 0x11 .relay 1 1 0 (some { lane := 1, cadence := 8, phase := 0 })),
   (2, device 0x22 .detector 1 2 1 none),
   (3, device 0x33 .detector 1 3 0 (some { lane := 1, cadence := 8, phase := 1 })),
   (4, { device 0x44 .detector 2 1 0 (some { lane := 2, cadence := 4, phase := 0 }) with lifecycle := .retiring 0 }),
   (5, { device 0x55 .callPoint 2 2 0 (some { lane := 1, cadence := 8, phase := 2 }) with
         lifecycle := .pending, link := LinkBlock.fresh })]

/-- Zone 1 SINGLE, zone 2 DOUBLE_KNOCK, both QUIET. -/
def zones2 : Tbl Zone :=
  [(1, { mode := .single, window := 60, disabled := false, state := .quiet }),
   (2, { mode := .doubleKnock, window := 20, disabled := false, state := .quiet })]

/-- A RUNNING network in slot 1 of frame 9, whose cell of lane 1 is record 3's. -/
def world : State :=
  { State.reset with
    records := devices, zones := zones2, timer := { frame := 9, phase := .inSlot 1 },
    network := { State.reset.network with state := .running, formingCount := 8, synth := .locked } }

/-- The same devices in a HALTED network. -/
def still : State := { world with timer := { frame := 9, phase := .stopped }, network := State.reset.network }

/-- The network with a frame end's steps. -/
def ended (due : FrameEndDue) (st : NetState) : State :=
  { world with timer := { frame := 127, phase := .frameEnd due }, network := { world.network with state := st } }

/-- The network with a zone's state. -/
def zoned (m : ZoneMode) (st : ZoneState) : State :=
  { world with zones := [(1, { mode := m, window := 60, disabled := false, state := st })] }

/-- Relay 1, its children 2 (a relay), 3, 5 (RETIRING) and 6 (PENDING), and 4 below relay 2. -/
def family : Tbl Record :=
  [(1, device 0x11 .relay 1 1 0 (some { lane := 1, cadence := 8, phase := 1 })),
   (2, device 0x22 .relay 1 2 1 none),
   (3, device 0x33 .detector 1 3 1 none),
   (4, device 0x44 .detector 1 4 2 none),
   (5, { device 0x55 .detector 1 5 1 none with lifecycle := .retiring 9 }),
   (6, { device 0x66 .detector 1 6 1 none with lifecycle := .pending, link := LinkBlock.fresh })]

/-- The small network with those six records and a link block of relay 1. -/
def carried (link : LinkBlock) : State :=
  { world with
    records := Tbl.set family 1 { device 0x11 .relay 1 1 0 (some { lane := 1, cadence := 8, phase := 1 }) with link := link },
    queue := [{ dest := 4, msg := .settings }, { dest := 6, msg := .joinGrant }] }

/-- The same with relay 1 LOST, so that the ACTIVE records below it are UNREACHABLE. -/
def severed : State :=
  { carried { goodLink with state := .lost, history := List.replicate 7 .heard } with
    records := (carried { goodLink with state := .lost, history := List.replicate 7 .heard }).records.map fun e =>
      if e.2.isActive && e.1 != 1 then (e.1, { e.2 with link := { e.2.link with state := .unreachable } }) else e }

/-- The record of handle h of the six. -/
def memberAt (h : Nat) : Record := (Tbl.get family h).getD (device 0 .detector 1 1 0 none)

/-- The record of handle h of the small states. -/
def deviceAt (h : Nat) : Record := (Tbl.get devices h).getD (device 0 .detector 1 1 0 none)

/-! ### The checks of WellFormed -/

theorem test_wellFormed_read : Instr.wellFormed (.readRecord 160) = true := by decide
theorem test_illFormed_byte_field : Instr.wellFormed (.readRecord 256) = false := by decide
theorem test_illFormed_two_byte_field : Instr.wellFormed (.ackFlags 65536) = false := by decide
theorem test_illFormed_signed_field :
    Instr.wellFormed (.setParameters none none none none none none (some (-129)) none none none) = false := by decide
theorem test_illFormed_plan_entry :
    Instr.wellFormed (.setParameters none (some [256]) none none none none none none none none) = false := by decide
theorem test_illFormed_frame_length :
    Instr.wellFormed (.setParameters none (some (List.replicate 253 1)) none none none none none none none none) = false := by
  decide +kernel
theorem test_illFormed_malformed_that_parses : Instr.wellFormed (.malformedRequest [0x5A, 0x24, 0x02, 0x00, 0x00]) = false := by
  decide
theorem test_wellFormed_malformed : Instr.wellFormed (.malformedRequest [0x5A, 0x24, 0x02, 0x00]) = true := by decide
theorem test_illFormed_instant : Instr.wellFormed (.uplinkFrameReceived 500000 (-80) []) = false := by decide
theorem test_illFormed_zone : Instr.wellFormed (.zoneWindowExpiry 33) = false := by decide
theorem test_illFormed_handle : Instr.wellFormed (.retireGraceExpiry 0) = false := by decide

/-! ### Transactions written out from Table 11-2 and the numbers of 11.1 -/

theorem test_decode_enrol :
    decodeTransaction [0x5A, 0x01, 0x0F, 0x00, 0xFF, 0x3A, 0x0C, 0x4F, 0x1E, 0x27, 0x00, 0x03, 0x04, 0x00, 0x02, 0x01,
      0x00, 0x10] = .enrol 0x3A0C4F1E27 0 3 4 0 2 1 16 := by decide
theorem test_decode_amend_two_fields :
    decodeTransaction [0x5A, 0x02, 0x04, 0x00, 0x11, 0x03, 0x02] = .amend 3 none none none (some 2) none none none := by
  decide
theorem test_decode_define_zone :
    decodeTransaction [0x5A, 0x09, 0x06, 0x00, 0x0F, 0x04, 0x02, 0x14, 0x00] = .defineZone 4 2 20 0 := by decide
theorem test_decode_read_lane : decodeTransaction [0x5A, 0x0E, 0x03, 0x00, 0x01, 0x03] = .readLane 3 := by decide
theorem test_decode_open_commissioning :
    decodeTransaction [0x5A, 0x10, 0x12, 0x00, 0x7F, 0x3A, 0x0C, 0x00, 0x00, 0x00, 0x10, 0x01, 0x00, 0x00, 0x00, 0x00,
      0x00, 0x00, 0x00, 0x02, 0x58] = .openCommissioning 0x3A0C000000 16 1 0 0 0 600 := by decide
theorem test_decode_change_channel : decodeTransaction [0x5A, 0x15, 0x03, 0x00, 0x01, 0x02] = .changeChannel 2 := by decide
theorem test_decode_ack_flags : decodeTransaction [0x5A, 0x1C, 0x04, 0x00, 0x01, 0x02, 0x01] = .ackFlags 0x201 := by decide
theorem test_decode_start : decodeTransaction [0x5A, 0x1F, 0x02, 0x00, 0x00] = .start := by decide
theorem test_decode_set_parameters :
    decodeTransaction [0x5A, 0x21, 0x06, 0x00, 0x42, 0x02, 0x00, 0x07, 0xBA] =
      .setParameters none (some [0, 7]) none none none none (some (-70)) none none none := by decide
theorem test_decode_answer_read : decodeTransaction [0xA5, 0, 0, 0] = .answerRead 3 := by decide
theorem test_decode_absent_mandatory_field :
    decodeTransaction [0x5A, 0x0E, 0x02, 0x00, 0x00] = .malformedRequest [0x5A, 0x0E, 0x02, 0x00, 0x00] := by decide
theorem test_decode_mark_beyond_fields : decodeRequest [0x5A, 0x0E, 0x03, 0x00, 0x03, 0x03] = none := by decide
theorem test_decode_other_leading_byte : decodeTransaction [0x00, 0x1F] = .malformedRequest [0x00, 0x1F] := by decide
theorem test_table_words_spell_nothing : decodeTableWord 8 0 = none := rfl

/-! ### Air and answer frames -/

/-- PRESUMED: the known check value of this CRC over the digits 1 to 9. -/
theorem test_crc : crc16 [0x31, 0x32, 0x33, 0x34, 0x35, 0x36, 0x37, 0x38, 0x39] = 0x29B1#16 := by decide +kernel

/-- The CHECK_IN of record 3 in Table 11-6's layout; its CRC is computed outside the model. -/
def checkIn3 : List Byte := [0x0C, 0x00, 0x01, 0x01, 0x03, 0x00, 0x05, 0x00, 0x5A, 0x02, 0x00, 0x49, 0x71]

def report3 : Report := { fire := .none, seq := 5, faults := 0, battery := 90, version := 2 }

theorem test_parse_check_in : parseUplink 1 checkIn3 = some (.checkIn 3 report3 none) := by decide +kernel
theorem test_parse_alarm :
    parseUplink 1 [0x09, 0x00, 0x01, 0x02, 0x03, 0x00, 0x02, 0x06, 0x6D, 0x95] = some (.alarm 3 0 .alarm 6) := by decide +kernel
theorem test_parse_other_network : parseUplink 2 checkIn3 = none := by decide +kernel
theorem test_beacon_bytes :
    Transmission.bytes
      { channel := 0, networkId := 1,
        frame := .beacon { frame := 8, running := true, countdown := 0, target := 0, commissioning := false } } =
      [0x0A, 0x00, 0x01, 0x10, 0x08, 0x01, 0x00, 0x00, 0x00, 0xE7, 0x42] := by decide +kernel
/-- Table 11-3: kind 9, ADJUSTED, marker 0, payload length 1, one adjustment (position 3, clamped), then the window 240. -/
theorem test_answer_bytes :
    Answer.bytes
      { kind := 9, result := .adjusted, discarded := false, adjusted := [(3, .clamped)], payload := .window 240 } =
      [0x09, 0x01, 0x00, 0x00, 0x01, 0x01, 0x03, 0x02, 0xF0] := by decide

/-! ### Worked examples -/

/-- Table 3-4. -/
theorem test_cadence_clamps :
    [clampCadence 3 400 128, clampCadence 4 400 128, clampCadence 3 100 128, clampCadence 3 400 50, clampCadence 3 400 32,
      clampCadence 3 400 200, clampCadence 3 400 65535, clampCadence 3 400 0, clampCadence 8 32 16] =
      [128, 64, 32, 32, 32, 128, 128, 1, 4] := by decide

/-- The map of 3.6 at its start. -/
def map36 : List LaneEntry :=
  [(1, 1, 0), (2, 2, 0), (2, 2, 1), (3, 4, 1), (3, 8, 2)].map fun a =>
    { owner := 1, role := .current, alloc := { lane := a.1, cadence := a.2.1, phase := a.2.2 } }

/-- 3.6 steps a and b: cadence 8 finds (3, 8, 0), and then cadence 2 finds (4, 2, 0). -/
theorem test_lane_fit_a : firstFit map36 8 = some { lane := 3, cadence := 8, phase := 0 } := by decide
theorem test_lane_fit_b :
    firstFit (map36 ++ [{ owner := 2, role := .current, alloc := { lane := 3, cadence := 8, phase := 0 } }]) 2 =
      some { lane := 4, cadence := 2, phase := 0 } := by decide

/-- R78's examples. -/
theorem test_lqf_heard : lqfStep (some 480) .heard 22 = some 464 := by decide
theorem test_lqf_missed : lqfStep (some 406) .missed 0 = some 355 := by decide

/-- 2.7 step a: the first knock waits, rearms the knocker and leaves its latch. -/
theorem test_double_knock_first :
    let t := (zoned .doubleKnock .quiet).applyFire 3 .alarm
    (t.zone? 1).map Zone.state = some (.waiting 3 false 60) ∧ (t.rec? 3).map (fun r => (r.cond.fire, r.cond.latched)) =
      some (.none, true) ∧ t.queue = [{ dest := 3, msg := .rearm }] := by decide
/-- 2.7 step d: the second knock makes the zone FIRE. -/
theorem test_double_knock_second :
    (((zoned .doubleKnock (.waiting 3 false 12)).applyFire 3 .alarm).zone? 1).map Zone.state = some .fire := by decide
/-- 2.7: in a COINCIDENCE zone the same member's second onset leaves the wait. -/
theorem test_coincidence_same_member :
    (((zoned .coincidence (.waiting 3 false 12)).applyFire 3 .alarm).zone? 1).map Zone.state =
      some (.waiting 3 false 12) := by decide

/-- 7.8 step c: a full queue loses its newest entry of class 6 to a JOIN_GRANT. -/
theorem test_queue_displacement :
    let full := (List.range 23).map fun i => ({ dest := i + 1, msg := .timeCorrection 2000 } : QueueEntry)
    (insertRequest (full ++ [{ dest := 12, msg := .alarmAck 6 }]) { dest := 9, msg := .joinGrant }).1.drop 21 =
      [{ dest := 22, msg := .timeCorrection 2000 }, { dest := 12, msg := .alarmAck 6 }, { dest := 9, msg := .joinGrant }] := by
  decide

/-- 9.7 steps a to c: the urgent posting promotes record 41's entry, and zone 6 stands behind it. -/
theorem test_promotion :
    let a := ((Attention.reset.post (.record 40) .linkOnset false).post (.record 41) .faultOnset false)
    ((a.post (.record 41) .fireOnset true).post (.zone 6) .zoneOnset true).entries.map (fun e => (e.target, e.urgent)) =
      [(.record 41, true), (.zone 6, true), (.record 40, false)] := by decide

/-- Table 8-2: 12 BUSY samples of 16 declare the band INTERFERED, 11 do not. -/
theorem test_interference_onset :
    judged false (List.replicate 12 true) = true ∧ judged false (List.replicate 11 true) = false := by decide

/-- R117: a frame 4000 µs before the nominal start of slot 3 is in its window, one 4001 µs before is in none. -/
theorem test_window_edges : windowOf 71000 = some (3, -4000) ∧ windowOf 70999 = none := by decide

/-- R117: a frame whose start lies 4000 µs before slot 1, received when slot 0 has closed, is in slot 1's window. -/
theorem test_early_start_after_close :
    (match exec (.uplinkFrameReceived 21000 (-80) checkIn3) world with
     | .next t => t.held.map fun x => (x.slot, x.offset)
     | _ => []) = [(1, -4000)] := by decide +kernel

/-- R181 and the layout of R184: READ_IDENTITY after reset. -/
theorem test_read_identity :
    exec .readIdentity State.reset = .next (State.reset.setPort (State.reset.port.answering 36
      (.ok (.identity 0x0A7E 0x0340 2)))) := by rfl

/-- R177, R178: the lock starts frame 0 in FORMING. -/
theorem test_start_lock :
    let s := { State.reset with port := { State.reset.port with state := .working } }
    ∃ t, exec .startLockObtained s = .next t ∧ t.network.state = .forming ∧ t.timer = { frame := 0, phase := .beaconDue } :=
  ⟨_, rfl, rfl, rfl⟩

/-- R54: a beacon event while the timer is stopped changes nothing. -/
theorem test_no_beacon_while_halted : exec .beacon State.reset = .next State.reset := by rfl

/-! ### Witnesses: a state and operands that meet the hypotheses of each statement together -/

theorem world_tables : TablesLegal world := ⟨by decide, by decide, by decide, by decide⟩
theorem world_registry : RegistryLegal world := registryLegal_of world_tables (by decide) (by decide)
theorem world_map : MapLegal world := mapLegal_of (by decide) (by decide) (by decide)
theorem carried_tables : TablesLegal (carried goodLink) := ⟨by decide, by decide, by decide, by decide⟩
theorem carried_tree : TreeLegal (carried goodLink) :=
  treeLegal_of carried_tables (by decide) (by decide) (by decide) (by decide)
theorem carried_reach : ReachLegal (carried goodLink) := reachLegal_of (by decide)
theorem carried_map : MapLegal (carried goodLink) := mapLegal_of (by decide) (by decide) (by decide)
theorem severed_tree : TreeLegal severed :=
  treeLegal_of ⟨by decide, by decide, by decide, by decide⟩ (by decide) (by decide) (by decide) (by decide)
theorem severed_reach : ReachLegal severed := reachLegal_of (by decide)

/-- The small network with a command waiting. -/
def busy : State := { world with pending := [.laneSlotClose] }

theorem busy_tables : TablesLegal busy := ⟨by decide, by decide, by decide, by decide⟩

theorem witness_StepTakesFrontCommand : busy.pending = .laneSlotClose :: [] ∧ State.reset.pending = [] := ⟨rfl, rfl⟩
theorem witness_RequestFramesReadAndWritten :
    Instr.wellFormed (.amend 3 none none (some 1) none none (some 65535) none) = true
      ∧ (requestFields (.amend 3 none none (some 1) none none (some 65535) none)).isSome = true
      ∧ decodeTransaction [0x5A, 0x0E, 0x03, 0x00, 0x01, 0x03] = .readLane 3 ∧ (requestFields (.readLane 3)).isSome = true := by
  decide
/-- A roll-call of one entry, in Table 11-6's layout. -/
def rollBody : List Byte :=
  [0x01, 0x03, 0x00, 0x05, 0x00, 0x5A, 0x02, 0x01, 0x07, 0x01, 0x02, 0x03, 0x03, 0x3F, 0x02, 0x06, 0x0F, 0xFF, 0x04, 0x09]
theorem witness_AirFramesReadAndWritten :
    1 < 65536 ∧ parseUplink 1 checkIn3 = some (.checkIn 3 report3 none)
      ∧ parseBody [0x01, 0x03, 0x00, 0x05, 0x00, 0x5A, 0x02, 0x00] = some (.checkIn 3 report3 none)
      ∧ (rollBody.drop 10).length = 10 * 1
      ∧ parseBody rollBody = some (.checkIn 3 report3 (some { version := 7, entries :=
          [{ child := 2, relay := 3, heard := true, hasVersion := true, margin := 63, fire := 2, seq := 6, faults := 15,
             battery := 255, version := 4, childVersion := 9 }] }))
      ∧ parseBody (rollBody ++ [0x00]) = none ∧ parseBody [0x01, 0x03, 0x00, 0x05, 0x00, 0x5A, 0x02, 0x02] = none
      ∧ parseBody [0x05, 0x03] = none := by decide +kernel
theorem witness_RegistryLawKept : RegistryLegal busy ∧ ∃ t, step busy = .next t :=
  ⟨registryLegal_of busy_tables (by decide) (by decide), _, rfl⟩
theorem busy_zones : ZonesLegal busy := by
  have h : ∀ z zn, busy.zone? z = some zn → zn.window = 60 ∧ zn.state = .quiet ∨ zn.window = 20 ∧ zn.state = .quiet := by
    intro z zn h
    have m := Tbl.mem_of_get h
    simp only [busy, world, zones2, List.mem_cons, List.not_mem_nil, Prod.mk.injEq, or_false] at m
    rcases m with ⟨-, rfl⟩ | ⟨-, rfl⟩ <;> decide
  refine ⟨fun z zn e => ?_, fun z zn e _ => ?_, fun z zn f v n e w => ?_⟩ <;> rcases h z zn e with ⟨a, b⟩ | ⟨a, b⟩ <;>
    simp_all
theorem witness_LinkAndZoneRangesKept : LinksLegal busy ∧ TablesLegal busy ∧ ZonesLegal busy ∧ ∃ t, step busy = .next t := by
  refine ⟨fun e he => ?_, busy_tables, busy_zones, _, rfl⟩
  have h : ∀ e ∈ busy.records, e.2.link = goodLink ∨ e.2.link = LinkBlock.fresh := by decide
  rcases h e he with h | h <;> rw [h] <;> exact ⟨by simp [goodLink, LinkBlock.fresh], by decide, by decide, by decide, by decide⟩
theorem busy_tree : TreeLegal busy := treeLegal_of busy_tables (by decide) (by decide) (by decide) (by decide)
theorem witness_RelayTreeLawKept : TreeLegal busy ∧ ∃ t, step busy = .next t := ⟨busy_tree, _, rfl⟩
theorem witness_ReachabilityLawKept : TreeLegal busy ∧ ReachLegal busy ∧ ∃ t, step busy = .next t :=
  ⟨busy_tree, reachLegal_of (by decide), _, rfl⟩
theorem witness_LaneMapLawKept : MapLegal busy ∧ ∃ t, step busy = .next t :=
  ⟨mapLegal_of (by decide) (by decide) (by decide), _, rfl⟩
theorem witness_SupervisionLawKept : CeilingLegal busy ∧ ∃ t, step busy = .next t :=
  ⟨⟨by decide, by decide, by decide⟩, _, rfl⟩
theorem witness_QueueAndAttentionLawsKept : QueueLegal busy ∧ AttentionLegal busy ∧ ∃ t, step busy = .next t :=
  ⟨⟨by decide, by decide⟩, ⟨by decide, by decide, by decide⟩, _, rfl⟩
theorem witness_ControlLawKept : ControlLegal busy ∧ ChannelLegal busy ∧ ∃ t, step busy = .next t :=
  ⟨⟨by decide, by simp [busy, world, TimerPhase.legal], by decide, by decide⟩,
    ⟨by decide, by decide, by decide, by decide, by simp [busy, world, State.reset, Monitor.reset]⟩, _, rfl⟩
theorem witness_CandidateLawKept : ControlLegal busy ∧ CandidatesLegal busy ∧ ∃ t, step busy = .next t :=
  ⟨witness_ControlLawKept.1, ⟨by decide, by decide, by decide, by decide⟩, _, rfl⟩

/-- The small network whose port waits for a START's lock. -/
def waiting : State := { still with port := { still.port with state := .working } }

/-- The small network with an answer that the host has not read. -/
def unread : State := { world with port := world.port.answering 17 (.ok .none) }

theorem witness_RequestWritesDiscardedOrMalformed :
    waiting.port.state = .working ∧ (requestFields .halt).isSome = true
      ∧ world.port.state ≠ .working ∧ decodeRequest [0x5A, 0x24, 0x02, 0x00] = none
      ∧ decodeRequest [0x00, 0x24] = none ∧ (∀ rest, [0x00#8, 0x24#8] ≠ 0x5A#8 :: rest) :=
  ⟨by decide, by decide, by decide, by decide, by decide, by simp⟩
theorem witness_RequestAnsweredAtOnce :
    requestFields (.retire 3) = some (3, [some (.num 3)]) ∧ (Instr.retire 3) ≠ .start ∧ unread.port.state ≠ .working := by
  decide
/-- The refusing clause: RETIRE of a VACANT slot answers neither OK nor ADJUSTED. -/
theorem witness_RequestAnsweredAtOnce_refusal :
    (match exec (.retire 9) world with
      | .next t => (match t.port.state with
        | .answerReady a => decide (a.result ≠ .ok ∧ a.result ≠ .adjusted)
        | _ => false)
      | _ => false) = true := by decide
theorem witness_AnswerReadClocksTheBuffer :
    (∃ a, unread.port.state = .answerReady a) ∧ ∀ a, waiting.port.state ≠ .answerReady a :=
  ⟨⟨_, rfl⟩, by simp [waiting]⟩

theorem witness_EnrolCreatesDirectRecord :
    TablesLegal world ∧ world.port.state ≠ .working ∧ Kind.ofCode 0 = some .detector ∧ isZone 2 = true ∧ isZone 32 = true
      ∧ IndicatorMode.ofCode 2 = some .heartbeat ∧ (world.zone? 2).isSome = true
      ∧ (∀ e ∈ world.records, e.2.serial ≠ 0x99)
      ∧ (∀ e ∈ world.records, e.2.isMember = true → e.2.zone = 2 → e.2.member ≠ 32)
      ∧ isHandle 6 = true ∧ world.rec? 6 = none ∧ (∀ g < 6, 1 ≤ g → world.rec? g ≠ none)
      ∧ firstFit world.laneEntries (clampCadence world.network.params.missLimit world.network.params.ceiling 0)
          = some { lane := 3, cadence := 1, phase := 0 } :=
  ⟨world_tables, by decide, by decide, by decide, by decide, by decide, by decide, by decide, by decide, by decide,
    by decide, by decide, by decide⟩
/-- The small network with records of handles 1 to n. -/
def crowd (n : Nat) (f : Nat → Record) : State :=
  { world with records := (List.range n).map fun i => (i + 1, { f (i + 1) with serial := BitVec.ofNat 40 (i + 1), member := i }) }

/-- Each test of R6 and of Table 1-6 is the first to fail somewhere: no zone 3, serial 33, the address of record 3, no record 9
as parent, 12 children, 160 records, 14 full lanes. -/
theorem witness_EnrolCreatesDirectRecord_refusals :
    (world.port.state ≠ .working ∧ ¬ 3 ≤ 2 ∧ ¬ (1 ≤ 0) ∧ ¬ 33 ≤ 32 ∧ ¬ 161 ≤ 160 ∧ ¬ 5 ≤ 4)
      ∧ (world.zone? 3 = none ∧ world.zone? 1 ≠ none ∧ (∃ e ∈ world.records, e.2.serial = 0x33)
        ∧ (∃ e ∈ world.records, e.2.isMember = true ∧ e.2.zone = 1 ∧ e.2.member = 3) ∧ world.rec? 9 = none)
      ∧ (let s := crowd 13 fun h => if h = 1 then deviceAt 1 else deviceAt 2
         TablesLegal s ∧ s.rec? 1 ≠ none ∧ s.parentOf 1 = 0 ∧ (s.children 1).length = 12)
      ∧ (let s := crowd 160 deviceAt
         TablesLegal s ∧ s.zone? 1 ≠ none ∧ ∀ h ∈ List.range 161, isHandle h = true → s.rec? h ≠ none)
      ∧ (let s := crowd 14 fun h => { deviceAt 3 with current := some { lane := h, cadence := 1, phase := 0 } }
         TablesLegal s ∧ isHandle 15 = true ∧ s.rec? 15 = none ∧ firstFit s.laneEntries 8 = none
           ∧ clampCadence s.network.params.missLimit s.network.params.ceiling 8 = 8) :=
  ⟨by decide, by decide, ⟨⟨by decide, by decide, by decide, by decide⟩, by decide, by decide, by decide⟩,
    ⟨⟨by decide +kernel, by decide +kernel, by decide +kernel, by decide⟩, by decide, by decide +kernel⟩,
    ⟨by decide, by decide, by decide, by decide⟩, by decide, by decide, by decide +kernel, by decide +kernel⟩
theorem witness_EnrolCreatesChild :
    TablesLegal world ∧ Kind.ofCode 2 = some .relay ∧ (world.zone? 2).isSome = true
      ∧ (∀ e ∈ world.records, e.2.serial ≠ 0x99)
      ∧ (∀ e ∈ world.records, e.2.isMember = true → e.2.zone = 2 → e.2.member ≠ 32)
      ∧ world.rec? 6 = none ∧ (∀ g < 6, 1 ≤ g → world.rec? g ≠ none)
      ∧ world.rec? 1 = some (deviceAt 1) ∧ (deviceAt 1).kind = .relay ∧ (deviceAt 1).isMember = true
      ∧ (deviceAt 1).settings.parent = 0 ∧ (world.children 1).length < 12 ∧ (world.descendants 1).length < 24
      ∧ (carried goodLink).rec? 2 = some (memberAt 2) ∧ (memberAt 2).kind = .relay ∧ (memberAt 2).isMember = true
      ∧ (memberAt 2).settings.parent = 1 ∧ (carried goodLink).parentOf 1 = 0 ∧ ((carried goodLink).children 2).length < 12
      ∧ ((carried goodLink).descendants 1).length < 24 ∧ (carried goodLink).rec? 7 = none
      ∧ ∀ g < 7, 1 ≤ g → (carried goodLink).rec? g ≠ none :=
  ⟨world_tables, by decide, by decide, by decide, by decide, by decide, by decide, rfl, by decide, by decide, by decide,
    by decide, by decide, rfl, by decide, by decide, by decide, by decide, by decide, by decide, by decide, by decide⟩
theorem witness_RestoreCreatesRecord :
    TablesLegal still ∧ still.port.state ≠ .working ∧ still.network.state = .halted ∧ isHandle 160 = true
      ∧ 128 ∈ cadences ∧ yesNo 1 = some true ∧ still.rec? 160 = none ∧ (still.zone? 2).isSome = true
      ∧ (∀ e ∈ still.records, e.2.serial ≠ 0x99)
      ∧ (∀ e ∈ still.records, e.2.isMember = true → e.2.zone = 2 → e.2.member ≠ 32)
      ∧ 128 * still.network.params.missLimit ≤ still.network.params.ceiling
      ∧ isLane 14 = true
      ∧ (∀ e ∈ still.laneEntries, e.alloc.collides { lane := 14, cadence := 128, phase := 127 } = false)
      ∧ still.rec? 1 = some (deviceAt 1) ∧ (deviceAt 1).link.state.isDown = false
      ∧ (still.children 1).length < 12 ∧ (still.descendants 1).length < 24
      ∧ (let s := { severed with network := State.reset.network }
         TablesLegal s ∧ s.rec? 2 = some { memberAt 2 with link := { goodLink with state := .unreachable } }
           ∧ s.children 160 = [] ∧ (s.children 2).length < 12 ∧ (s.descendants 1).length < 24)
      ∧ (let p := { State.reset.network.params with ceiling := 32 }
         p.ceiling < 128 * p.missLimit) :=
  ⟨⟨by decide, by decide, by decide, by decide⟩, by decide, by decide, by decide, by decide, by decide, by decide,
    by decide, by decide, by decide, by decide, by decide, by decide, rfl, by decide, by decide, by decide,
    ⟨⟨by decide, by decide, by decide, by decide⟩, rfl, by decide, by decide, by decide⟩, by decide⟩
/-- Each test of R10 and of Table 1-7 is the first to fail somewhere: a RUNNING network, each field just out of range, handle 3
in use, no zone 3, serial 0x33, the address of record 3, no record 9 as parent, 12 children, 128 * 3 above 32, the cell of
record 3. -/
theorem witness_RestoreCreatesRecord_refusals :
    TablesLegal world ∧ world.network.state ≠ .halted
      ∧ (¬ 161 ≤ 160 ∧ ¬ 3 ≤ 2 ∧ ¬ 33 ≤ 32 ∧ ¬ (1 ≤ 0) ∧ ¬ 5 ≤ 4 ∧ 3 ∉ [1, 2, 4, 8, 16, 32, 64, 128] ∧ ¬ 15 ≤ 14
        ∧ ¬ (0 = 0 ↔ 0 ≠ 0) ∧ ¬ (1 = 0 ↔ 160 ≠ 0) ∧ ¬ (1 = 0 ∨ 128 < 128) ∧ ¬ 2 ≤ 1)
      ∧ TablesLegal still ∧ still.network.state = .halted ∧ still.rec? 3 ≠ none ∧ still.zone? 3 = none
      ∧ (∃ e ∈ still.records, e.2.serial = 0x33)
      ∧ (∃ e ∈ still.records, e.2.isMember = true ∧ e.2.zone = 1 ∧ e.2.member = 3) ∧ still.rec? 9 = none
      ∧ (let s := { crowd 13 fun h => if h = 1 then deviceAt 1 else deviceAt 2 with network := State.reset.network }
         TablesLegal s ∧ s.network.state = .halted ∧ s.rec? 14 = none ∧ (s.children 1).length = 12)
      ∧ (let s := { still with network := { still.network with params := { Params.reset with ceiling := 32 } } }
         TablesLegal s ∧ s.network.state = .halted ∧ s.network.params.ceiling < 128 * s.network.params.missLimit)
      ∧ ∃ e ∈ still.laneEntries, e.alloc.collides { lane := 1, cadence := 2, phase := 1 } = true :=
  ⟨world_tables, by decide, by decide, ⟨by decide, by decide, by decide, by decide⟩, by decide, by decide, by decide, by decide,
    by decide, by decide, ⟨⟨by decide, by decide, by decide, by decide⟩, by decide, by decide, by decide⟩,
    ⟨⟨by decide, by decide, by decide, by decide⟩, by decide, by decide⟩, by decide⟩
/-- Record 3 keeps the law of its allocations. -/
theorem deviceAt3_legal : (deviceAt 3).AllocLegal :=
  Record.allocLegal_of (by decide) (by decide) (by decide) (by decide)

theorem witness_AmendAppliesFields :
    world.port.state ≠ .working ∧ isHandle 3 = true ∧ world.rec? 3 = some (deviceAt 3) ∧ (deviceAt 3).isMember = true
      ∧ (deviceAt 3).AllocLegal ∧ IndicatorMode.ofCode 0 = some .off
      ∧ isZone 2 = true ∧ isZone 32 = true ∧ (world.zone? 2).isSome = true
      ∧ (∀ e ∈ world.records, e.1 ≠ 3 → e.2.isMember = true → e.2.zone = 2 → e.2.member ≠ 32)
      ∧ yesNo 1 = some true ∧ yesNo 0 = some false ∧ (deviceAt 3).cond.fire = .none
      ∧ (∀ f : FireState, ∃ r, Tbl.get (Tbl.set devices 3 { deviceAt 3 with
            disabled := true, cond := { Condition.fresh with fire := f } }) 3 = some r
          ∧ r.isMember = true ∧ r.AllocLegal ∧ r.disabled = true ∧ r.cond.fire = f ∧ r.zone = 1)
      ∧ world.zone? 1 = some { mode := .single, window := 60, disabled := false, state := .quiet }
      ∧ (zoned .single .fire).zone? 1 = some { mode := .single, window := 60, disabled := false, state := .fire }
      ∧ ({ world with zones := [] } : State).zone? 1 = none :=
  ⟨by decide, by decide, rfl, by decide, deviceAt3_legal, by decide, by decide, by decide, by decide, by decide,
    by decide, by decide, by decide,
    fun f => ⟨_, rfl, rfl, ⟨deviceAt3_legal.direct, deviceAt3_legal.next, deviceAt3_legal.currentLegal,
      deviceAt3_legal.nextLegal, deviceAt3_legal.cadence⟩, rfl, rfl, rfl⟩,
    by decide, by decide, by decide⟩
/-- The small network with 14 direct records that hold every cell and a fifteenth below record 1. -/
def full : State :=
  crowd 15 fun h => if h = 15 then deviceAt 2 else
    { deviceAt 3 with
      settings := { (deviceAt 3).settings with cadence := 1 }, current := some { lane := h, cadence := 1, phase := 0 } }

/-- Each test of R13 is the first to fail somewhere: handle 161, VACANT handle 160, the RETIRING record 4, and of record 3 each
field just out of range, no zone 3, the address of record 1, itself and the detector 5 as parent; a relay with 12 children; and
with every cell taken another cadence of record 1 and parent 0 for record 15. -/
theorem witness_AmendAppliesFields_refusals :
    ¬ 161 ≤ 160 ∧ isHandle 160 = true ∧ world.rec? 160 = none ∧ world.rec? 4 = some (deviceAt 4)
      ∧ (deviceAt 4).isRetiring = true ∧ world.rec? 3 = some (deviceAt 3) ∧ (deviceAt 3).isMember = true
      ∧ (deviceAt 3).AllocLegal ∧ (¬ 33 ≤ 32 ∧ ¬ 1 ≤ 0 ∧ ¬ 2 ≤ 1 ∧ ¬ 5 ≤ 4 ∧ ¬ 3 ≤ 2) ∧ world.zone? 3 = none
      ∧ (∃ e ∈ world.records, e.1 ≠ 3 ∧ e.2.isMember = true ∧ e.2.zone = 1 ∧ e.2.member = 1)
      ∧ (deviceAt 3).settings.parent = 0 ∧ world.rec? 5 = some (deviceAt 5) ∧ (deviceAt 5).kind ≠ .relay
      ∧ (let s := crowd 14 fun h => if h = 1 then deviceAt 1 else if h = 14 then deviceAt 3 else deviceAt 2
         ∃ p r, s.rec? 1 = some p ∧ p.kind = .relay ∧ p.isMember = true ∧ p.settings.parent = 0
           ∧ (∀ c ∈ s.children 14, s.children c = []) ∧ 1 ∉ s.descendants 14 ∧ s.rec? 14 = some r ∧ r.isMember = true
           ∧ r.settings.parent = 0 ∧ ((s.children 1).filter fun c => c != 14).length = 12)
      ∧ (∃ r, full.rec? 1 = some r ∧ r.isActive = true ∧ r.AllocLegal ∧ r.settings.parent = 0 ∧ r.next = none
          ∧ clampCadence 3 400 8 ≠ r.settings.cadence)
      ∧ (∃ r, full.rec? 15 = some r ∧ r.isMember = true ∧ r.AllocLegal ∧ r.settings.parent = 1)
      ∧ clampCadence full.network.params.missLimit full.network.params.ceiling 8 = 8 ∧ firstFit full.laneEntries 8 = none :=
  ⟨by decide, by decide, by decide, rfl, by decide, rfl, by decide, deviceAt3_legal, by decide, by decide, by decide, by decide,
    rfl, by decide,
    ⟨_, _, rfl, by decide, by decide, by decide, by decide, by decide, rfl, by decide, by decide, by decide⟩,
    ⟨_, rfl, by decide, Record.allocLegal_of (by decide) (by decide) (by decide) (by decide), by decide, by decide, by decide⟩,
    ⟨_, rfl, by decide, Record.allocLegal_of (by decide) (by decide) (by decide) (by decide), by decide⟩,
    by decide, by decide +kernel⟩
/-- Record 3 with a move from cadence 8 to cadence 16 pending. -/
def mover : Record :=
  { deviceAt 3 with
    settings := { (deviceAt 3).settings with cadence := 16 }, next := some { lane := 1, cadence := 16, phase := 3 } }

theorem witness_AmendChangesCadenceAndParent :
    (let s := { world with records := Tbl.set devices 3 mover }
     let P := fun q => clampCadence world.network.params.missLimit world.network.params.ceiling q
     world.port.state ≠ .working ∧ world.rec? 3 = some (deviceAt 3) ∧ (deviceAt 3).isActive = true ∧ (deviceAt 3).AllocLegal
       ∧ (deviceAt 3).settings.parent = 0 ∧ (deviceAt 3).next = none ∧ P 65535 ≠ (deviceAt 3).settings.cadence
       ∧ firstFit world.laneEntries (P 65535) = some { lane := 1, cadence := 128, phase := 3 }
       ∧ s.rec? 3 = some mover ∧ mover.AllocLegal ∧ mover.isActive = true
       ∧ mover.current = some { lane := 1, cadence := 8, phase := 1 } ∧ P 8 ≠ mover.settings.cadence ∧ P 8 = 8 ∧ P 4 ≠ 8
       ∧ firstFit (s.laneEntries.filter fun e => !(e.owner == 3 && e.role == .next)) (P 4) =
           some { lane := 1, cadence := 4, phase := 3 }
       ∧ world.rec? 5 = some (deviceAt 5) ∧ (deviceAt 5).isPending = true ∧ (deviceAt 5).settings.parent = 0
       ∧ P 2 ≠ (deviceAt 5).settings.cadence
       ∧ firstFit (world.laneEntries.filter fun e => !(e.owner == 5 && e.role == .current)) (P 2) =
           some { lane := 2, cadence := 2, phase := 1 }
       ∧ world.rec? 2 = some (deviceAt 2) ∧ (deviceAt 2).isMember = true ∧ (deviceAt 2).settings.parent ≠ 0
       ∧ P 16 ≠ (deviceAt 2).settings.cadence)
      ∧ (deviceAt 3).isMember = true ∧ (deviceAt 3).link.state ≠ .unreachable ∧ world.children 3 = []
      ∧ world.rec? 1 = some (deviceAt 1) ∧ (deviceAt 1).kind = .relay ∧ (deviceAt 1).isMember = true
      ∧ (deviceAt 1).settings.parent = 0 ∧ (deviceAt 1).link.state.isDown = false
      ∧ (world.children 1).length < 12 ∧ (world.descendants 1).length < 24
      ∧ TreeLegal severed ∧ ReachLegal severed ∧ severed.port.state ≠ .working
      ∧ (∃ r relay, severed.rec? 2 = some r ∧ r.isMember = true ∧ r.AllocLegal ∧ r.settings.parent = 1
          ∧ r.link.state = .unreachable ∧ severed.rec? 1 = some relay)
      ∧ firstFit severed.laneEntries (clampCadence 3 400 8) = some { lane := 1, cadence := 8, phase := 0 }
      ∧ (memberAt 4).settings.parent = 2 :=
  ⟨⟨by decide, rfl, by decide, deviceAt3_legal, by decide, by decide, by decide, by decide, rfl,
      Record.allocLegal_of (by decide) (by decide) (by decide) (by decide), by decide, by decide, by decide, by decide,
      by decide, by decide, rfl, by decide, by decide, by decide, by decide, rfl, by decide, by decide, by decide⟩,
    by decide, by decide, by decide, rfl, by decide, by decide, by decide, by decide, by decide, by decide, severed_tree,
    severed_reach, by decide,
    ⟨_, _, rfl, rfl, Record.allocLegal_of (by decide) (by decide) (by decide) (by decide), rfl, rfl, rfl⟩, by decide, by decide⟩
/-- The state with relay 1 LOST, and the direct detector 7. -/
def severed7 : State :=
  { severed with
    records := Tbl.set severed.records 7 (device 0x77 .detector 1 7 0 (some { lane := 2, cadence := 8, phase := 0 })) }

/-- The six records and the top relay 7. -/
def twoTops : State :=
  { carried goodLink with
    records := Tbl.set family 7 (device 0x77 .relay 1 7 0 (some { lane := 2, cadence := 8, phase := 0 })) }

/-- From relay 1 to the top relay 7 with a new cadence, from relay 1 to the second-level relay 2, relay 2 with its child to relay
7, and the direct detector 7 to relay 1, LOST. -/
theorem witness_AmendChangesCadenceAndParent_moves :
    TreeLegal twoTops ∧ ReachLegal twoTops ∧ twoTops.port.state ≠ .working
      ∧ twoTops.rec? 3 = some (memberAt 3) ∧ (memberAt 3).isMember = true ∧ (memberAt 3).settings.parent = 1
      ∧ (∃ relay, twoTops.rec? 7 = some relay ∧ relay.kind = .relay ∧ relay.isMember = true ∧ relay.settings.parent = 0)
      ∧ 7 ∉ twoTops.descendants 3 ∧ twoTops.children 3 = []
      ∧ ((twoTops.children 7).filter fun c => c != 3).length < 12
      ∧ ((twoTops.descendants 7).filter fun g => g != 3 && !(twoTops.descendants 3).contains g).length + 1
          + (twoTops.descendants 3).length ≤ 24
      ∧ clampCadence 3 400 16 ≠ (memberAt 3).settings.cadence
      ∧ twoTops.rec? 2 = some (memberAt 2) ∧ (memberAt 2).kind = .relay ∧ (memberAt 2).settings.parent = 1
      ∧ 2 ∉ twoTops.descendants 3 ∧ (memberAt 3).kind ≠ .relay ∧ ((twoTops.descendants 1).length < 24)
      ∧ twoTops.parentOf (memberAt 2).settings.parent = 0
      ∧ twoTops.children 2 = [4] ∧ twoTops.children 4 = [] ∧ 7 ∉ twoTops.descendants 2
      ∧ TreeLegal severed7 ∧ ReachLegal severed7 ∧ severed7.port.state ≠ .working
      ∧ (∃ r, severed7.rec? 7 = some r ∧ r.isMember = true ∧ r.settings.parent = 0 ∧ r.link.state = .linked)
      ∧ (∃ relay, severed7.rec? 1 = some relay ∧ relay.kind = .relay ∧ relay.isMember = true ∧ relay.settings.parent = 0
          ∧ relay.link.state.isDown = true)
      ∧ 1 ∉ severed7.descendants 7 ∧ severed7.children 7 = [] ∧ (severed7.children 1).length < 12
      ∧ (severed7.descendants 1).length < 24 :=
  ⟨treeLegal_of ⟨by decide, by decide, by decide, by decide⟩ (by decide) (by decide) (by decide) (by decide),
    reachLegal_of (by decide), by decide, rfl, by decide, by decide, ⟨_, rfl, by decide, by decide, by decide⟩, by decide,
    by decide, by decide, by decide, by decide, rfl, by decide, by decide, by decide, by decide, by decide, by decide, by decide,
    by decide, by decide,
    treeLegal_of ⟨by decide, by decide, by decide, by decide⟩ (by decide) (by decide) (by decide) (by decide),
    reachLegal_of (by decide), by decide, ⟨_, rfl, by decide, by decide, by decide⟩,
    ⟨_, rfl, by decide, by decide, by decide, by decide⟩, by decide, by decide, by decide, by decide⟩
theorem witness_RetireEntersRetiring :
    TablesLegal world ∧ world.rec? 2 = some (deviceAt 2) ∧ (deviceAt 2).isActive = true
      ∧ (deviceAt 2).link.state.isDown = false ∧ (deviceAt 2).settings.parent ≠ 2
      ∧ ((deviceAt 2).kind = .relay → world.children 2 = []) ∧ world.rec? 3 = some (deviceAt 3)
      ∧ (deviceAt 3).settings.parent = 0 ∧ world.queue.length < 24
      ∧ (deviceAt 2).settings.parent = 1 ∧ world.parentOf 1 = 0 ∧ world.rec? 1 = some (deviceAt 1)
      ∧ (deviceAt 1).current = some { lane := 1, cadence := 8, phase := 0 } ∧ world.admits 2 .retireNotice = true
      ∧ (carried goodLink).parentOf (memberAt 4).settings.parent = 1 :=
  ⟨world_tables, rfl, by decide, by decide, by decide, by decide, rfl, by decide, by decide, by decide, by decide, rfl,
    by decide, by decide, by decide⟩
/-- The small network with record 3 LOST. -/
def lost : State :=
  { world with records := Tbl.set devices 3 { deviceAt 3 with link := { goodLink with state := .lost } } }

theorem witness_RetireAndGraceExpiryVacate :
    TablesLegal world ∧ world.rec? 5 = some (deviceAt 5) ∧ (deviceAt 5).isPending = true
      ∧ TablesLegal lost ∧ (∃ r, lost.rec? 3 = some r ∧ r.isActive = true ∧ r.link.state.isDown = true ∧ r.kind ≠ .relay)
      ∧ world.rec? 4 = some (deviceAt 4) ∧ (deviceAt 4).lifecycle = .retiring 0 ∧ world.port.state ≠ .working
      ∧ ¬ 161 ≤ 160 ∧ ¬ 1 ≤ 0 ∧ isHandle 160 = true ∧ world.rec? 160 = none ∧ world.rec? 1 = some (deviceAt 1)
      ∧ (deviceAt 1).kind = .relay ∧ (∃ e ∈ world.records, e.2.settings.parent = 1) ∧ (deviceAt 4).kind ≠ .relay :=
  ⟨world_tables, rfl, by decide, ⟨by decide, by decide, by decide, by decide⟩, ⟨_, rfl, by decide⟩, rfl, by decide, by decide,
    by decide, by decide, by decide, by decide, rfl, by decide, by decide, by decide⟩
theorem witness_RecordLookupsAnswer :
    world.port.state ≠ .working ∧ isHandle 161 = false ∧ isHandle 160 = true ∧ world.rec? 160 = none
      ∧ TablesLegal world ∧ world.rec? 1 = some (deviceAt 1) ∧ RegistryLegal world
      ∧ ∀ e ∈ world.records, e.2.serial ≠ 0x99 :=
  ⟨by decide, by decide, by decide, by decide, world_tables, rfl, world_registry, by decide⟩

/-- The small network with the page cursor open on zone 1 after a member. -/
def paged (last : Nat) : State := { world with cursor := some (1, last) }

theorem witness_ZonePageWalksMembers :
    world.port.state ≠ .working ∧ isZone 33 = false ∧ isZone 32 = true ∧ world.zone? 32 = none
      ∧ (world.zone? 1).isSome = true ∧ world.cursor = none
      ∧ (∀ e ∈ (paged 3).records, e.2.isMember = true → e.2.zone = 1 → e.2.member ≤ 3)
      ∧ TablesLegal (paged 2) ∧ (paged 2).rec? 3 = some (deviceAt 3) ∧ (deviceAt 3).isMember = true
      ∧ (deviceAt 3).zone = 1 ∧ 2 < (deviceAt 3).member
      ∧ ∀ e ∈ (paged 2).records, e.2.isMember = true → e.2.zone = 1 → 2 < e.2.member →
          e.1 = 3 ∨ (deviceAt 3).member < e.2.member :=
  ⟨by decide, by decide, by decide, by decide, by decide, by decide, by decide,
    ⟨by decide, by decide, by decide, by decide⟩, rfl, by decide, by decide, by decide, by decide⟩

/-- The small network with zone 1 disabled, in a mode, and the fire states that records 2 and 3 report. -/
def silenced (m : ZoneMode) (a b : FireState) : State :=
  { world with
    zones := [(1, { mode := m, window := 60, disabled := true, state := .quiet })],
    records := Tbl.set (Tbl.set devices 2 { deviceAt 2 with cond := { Condition.fresh with fire := a } }) 3
      { deviceAt 3 with cond := { Condition.fresh with fire := b } } }

theorem witness_ZonesDefinedAndAmended :
    world.port.state ≠ .working ∧ isZone 32 = true ∧ ZoneMode.ofCode 2 = some .doubleKnock ∧ yesNo 0 = some false
      ∧ world.zone? 32 = none ∧ isZone 1 = true
      ∧ world.zone? 1 = some { mode := .single, window := 60, disabled := false, state := .quiet }
      ∧ 8 ≤ 240 ∧ 240 ≠ 60
      ∧ (zoned .coincidence (.waiting 3 false 12)).zone? 1 =
          some { mode := .coincidence, window := 60, disabled := false, state := .waiting 3 false 12 }
      ∧ (∀ m a b, (silenced m a b).zone? 1 = some { mode := m, window := 60, disabled := true, state := .quiet }
          ∧ (silenced m a b).port.state ≠ .working
          ∧ ∃ q r, (silenced m a b).rec? 2 = some q ∧ q.isMember = true ∧ q.zone = 1 ∧ q.disabled = false ∧ q.cond.fire = a
            ∧ q.kind = .detector ∧ (silenced m a b).rec? 3 = some r ∧ r.isMember = true ∧ r.zone = 1 ∧ r.disabled = false
            ∧ r.cond.fire = b ∧ r.kind = .detector)
      ∧ (∀ e ∈ (silenced .single .none .none).records, e.2.cond.fire = .none)
      ∧ (∀ e ∈ (silenced .single .none .prealarm).records, e.2.cond.fire ≠ .alarm)
      ∧ (∀ e ∈ (silenced .coincidence .none .alarm).records, e.2.cond.fire = .alarm → e.1 = 3)
      ∧ (∀ e ∈ (silenced .coincidence .alarm .alarm).records, e.2.cond.fire = .alarm → e.2.kind ≠ .callPoint)
      ∧ TablesLegal (silenced .coincidence .alarm .alarm) :=
  ⟨by decide, by decide, by decide, by decide, by decide, by decide, by decide, by decide, by decide, by decide,
    fun _ _ _ => ⟨rfl, by simp [silenced, world, State.reset], _, _, rfl, rfl, rfl, rfl, rfl, rfl, rfl, rfl, rfl, rfl, rfl, rfl⟩,
    by decide, by decide, by decide, by decide, ⟨by decide, by decide, by decide, by decide⟩⟩
/-- The other clauses of the statement: mode changes, the refusals at their bounds, DOUBLE_KNOCK with one and two reporters, and
the list of the reporters by member number. -/
theorem witness_ZonesDefinedAndAmended_more :
    (¬ 33 ≤ 32 ∧ ¬ (1 ≤ 0) ∧ ZoneMode.ofCode 3 = none ∧ ¬ 3 ≤ 2 ∧ ¬ 2 ≤ 1 ∧ world.zone? 1 ≠ none ∧ world.zone? 32 = none)
      ∧ ZoneMode.ofCode 1 = some .coincidence ∧ yesNo 0 = some false
      ∧ (zoned .doubleKnock (.waiting 3 false 12)).zone? 1 =
          some { mode := .doubleKnock, window := 60, disabled := false, state := .waiting 3 false 12 }
      ∧ (let s := silenced .doubleKnock .none .alarm
         TablesLegal s ∧ (∀ e ∈ s.records, e.2.cond.fire = .alarm → e.1 = 3) ∧ s.queue.length < 24
           ∧ s.admits 3 .rearm = true)
      ∧ TablesLegal (silenced .doubleKnock .alarm .alarm)
      ∧ (let s := silenced .coincidence .alarm .alarm
         let q := { deviceAt 2 with cond := { Condition.fresh with fire := .alarm } }
         let r := { deviceAt 3 with cond := { Condition.fresh with fire := .alarm } }
         TablesLegal s ∧ s.rec? 2 = some q ∧ s.rec? 3 = some r ∧ q.member < r.member
           ∧ (∀ e ∈ [(2, q), (3, r)], e.2.isMember = true ∧ e.2.zone = 1 ∧ e.2.disabled = false ∧ e.2.cond.fire = .alarm)
           ∧ ∀ e ∈ s.records, e.2.isMember = true → e.2.zone = 1 → e.2.disabled = false → e.2.cond.fire = .alarm →
               e = (2, q) ∨ e = (3, r)) :=
  ⟨by decide, by decide, by decide, by decide, ⟨⟨by decide, by decide, by decide, by decide⟩, by decide, by decide, by decide⟩,
    ⟨by decide, by decide, by decide, by decide⟩,
    ⟨by decide, by decide, by decide, by decide⟩, rfl, rfl, by decide, by decide, by decide⟩
theorem witness_DeleteAndReadZone :
    world.port.state ≠ .working ∧ isZone 33 = false ∧ isZone 32 = true ∧ world.zone? 32 = none
      ∧ isZone 1 = true ∧ (world.zone? 1).isSome = true ∧ (3, deviceAt 3) ∈ world.records
      ∧ (deviceAt 3).isMember = true ∧ (deviceAt 3).zone = 1 ∧ TablesLegal world ∧ RegistryLegal world
      ∧ (let s := { world with zones := Tbl.set zones2 3 { mode := .single, window := 60, disabled := false,
                                                             state := .quiet } }
         isZone 3 = true ∧ (s.zone? 3).isSome = true ∧ ∀ e ∈ s.records, e.2.isMember = true → e.2.zone ≠ 3) :=
  ⟨by decide, by decide, by decide, by decide, by decide, by decide, by decide, by decide, by decide, world_tables,
    world_registry,
    by decide⟩
theorem witness_ResetConditionsQuietensZones :
    TablesLegal world ∧ world.port.state ≠ .working ∧ isZone 2 = true ∧ (world.zone? 2).isSome = true ∧ 32 < 33
      ∧ isZone 32 = true ∧ world.zone? 32 = none
      ∧ (let s := silenced .single .prealarm .alarm
         s.queue.length + s.records.length ≤ 24 ∧ (s.rec? 3).map (fun r => (r.isMember, r.zone, r.cond.fire)) =
           some (true, 1, .alarm) ∧ (s.zone? 1).isSome = true ∧ s.admits 3 .rearm = true) :=
  ⟨world_tables, by decide, by decide, by decide, by decide, by decide, by decide, by decide⟩

theorem witness_SnapshotMovesTallies :
    let due : FrameEndDue := { formed := false, halted := false, autoTest := true, hyper := true }
    world.port.state ≠ .working ∧ (ended due .running).timer.phase = .frameEnd due ∧ due.hyper = true
      ∧ (ended due .running).network.params.snapshotAuto = true
      ∧ ({ ended due .running with
            network := { world.network with params := { Params.reset with snapshotAuto := false } } } : State
          ).network.params.snapshotAuto = false := by decide

/-- The small network with a measured record 3. -/
def timed : State :=
  { world with
    records := Tbl.set devices 3
      { deviceAt 3 with timing := some { last := -5, offsetMin := -4000, offsetMax := 4000 } } }

theorem witness_LaneAndTimingRead :
    world.port.state ≠ .working ∧ isLane 0 = false ∧ isLane 15 = false ∧ isLane 14 = true ∧ TablesLegal world ∧ MapLegal world
      ∧ isHandle 0 = false ∧ isHandle 160 = true ∧ world.rec? 160 = none
      ∧ world.rec? 3 = some (deviceAt 3) ∧ (deviceAt 3).timing = none
      ∧ (timed.rec? 3).map Record.timing = some (some { last := -5, offsetMin := -4000, offsetMax := 4000 }) :=
  ⟨by decide, by decide, by decide, by decide, world_tables, world_map, by decide, by decide, by decide, by decide, by decide,
    by decide⟩
/-- The small network with a commissioning window and two candidates. -/
def joining (window : Option Nat) : State :=
  { world with
    commissioning :=
      { filterA := { value := 0x3A0C000000, length := 16, enabled := true },
        filterB := { value := 0, length := 0, enabled := false }, window := window,
        candidates := [{ serial := 0x77, kind := .detector, via := 0, margin := 17, attempts := 1, frame := 20 },
                       { serial := 0x88, kind := .detector, via := 1, margin := 18, attempts := 2, frame := 22 }] } }

theorem witness_CommissioningWindowOpensAndCloses :
    world.port.state ≠ .working ∧ 40 ≤ 40 ∧ ¬ 41 ≤ 40 ∧ ¬ 2 ≤ 1 ∧ yesNo 1 = some true ∧ yesNo 0 = some false
      ∧ (joining (some 0)).commissioning.window = some 0 := by decide
theorem witness_CandidatesReadAndDismissed :
    let c : Candidate := { serial := 0x77, kind := .detector, via := 0, margin := 17, attempts := 1, frame := 20 }
    let d : Candidate := { serial := 0x88, kind := .detector, via := 1, margin := 18, attempts := 2, frame := 22 }
    (joining none).port.state ≠ .working ∧ (joining none).commissioning.candidates = [c] ++ d :: []
      ∧ (∀ x ∈ [c] ++ [], x.serial ≠ d.serial)
      ∧ ∀ x ∈ (joining none).commissioning.candidates, x.serial ≠ 0x99 := by decide

/-- The small network with two channels and a pending changeover. -/
def changing (st : NetState) (c : Option Changeover) : State :=
  { world with
    network := { world.network with state := st, params := { Params.reset with plan := [4, 9], agility := true } },
    monitor := { Monitor.reset with persistence := 40, changeover := c } }

theorem witness_ChannelChanges_request :
    let c : Changeover := { countdown := 3, target := 1, shownLast := false }
    (changing .forming none).network.state = .forming ∧ (changing .halting none).network.state = .halting
      ∧ (changing .running none).network.state = .running ∧ (changing .halted none).network.state = .halted
      ∧ (changing .running none).network.params.plan.length ≤ 2 ∧ 1 < (changing .running none).network.params.plan.length
      ∧ (changing .running (some c)).monitor.changeover = some c ∧ (changing .halted none).monitor.changeover = none
      ∧ (changing .running none).monitor.index < (changing .running none).network.params.plan.length
      ∧ 1 ≠ (changing .running none).monitor.index ∧ (changing .running none).port.state ≠ .working := by decide
theorem witness_ChannelChanges_changeover :
    let due : FrameEndDue := { formed := false, halted := false, autoTest := true, hyper := false }
    let c : Changeover := { countdown := 1, target := 1, shownLast := true }
    let s := { changing .running none with timer := { frame := 9, phase := .frameEnd due } }
    let u := { changing .running (some c) with timer := { frame := 9, phase := .frameEnd due } }
    s.timer.phase = .frameEnd due ∧ due.autoTest = true ∧ s.network.params.agility = true
      ∧ 1 < s.network.params.plan.length ∧ s.network.state = .running ∧ 40 ≤ s.monitor.persistence
      ∧ s.monitor.changeover = none ∧ u.monitor.changeover = some c ∧ c.shownLast = true ∧ u.timer.phase = .frameEnd due
      ∧ (ended due .running).timer.phase = .frameEnd due ∧ (ended due .running).network.params.agility = false := by decide
theorem witness_AnswerFramesLaidOut :
    [1, 2, 3].length ≤ 12 ∧ ([{ position := 1, entry := { dest := 3, msg := .rearm }, firstHop := 3 }] : List QueueView) ≠ []
      ∧ ∃ b, (Payload.record 1 (deviceAt 1) [2]).bytes[63]? = some b :=
  ⟨by decide, by decide, _, rfl⟩
theorem witness_ReadsAnswerThePart :
    world.port.state ≠ .working ∧ world.monitor.history.length ≤ 32
      ∧ world.network.params.plan[world.monitor.index]? = some 0 ∧ world.timer.phase ≠ .inSlot 0
      ∧ ({ world with timer := { frame := 9, phase := .inSlot 0 } } : State).timer.phase = .inSlot 0 := by decide
/-- The small network with one entry on the Attention List. -/
def posted (x : Target) : State := { world with attention := Attention.reset.post x .linkOnset false }

theorem witness_TakeAttentionTakesTheFirst :
    world.attention.entries = [] ∧ world.port.state ≠ .working
      ∧ (posted (.record 3)).attention.entries = { target := .record 3, marks := 16, urgent := false } :: []
      ∧ (posted (.record 3)).rec? 3 = some (deviceAt 3) ∧ (posted (.record 160)).rec? 160 = none
      ∧ (posted (.zone 1)).attention.entries = { target := .zone 1, marks := 16, urgent := false } :: []
      ∧ (posted (.zone 1)).zone? 1 = some { mode := .single, window := 60, disabled := false, state := .quiet }
      ∧ (posted (.zone 32)).zone? 32 = none := by decide
theorem witness_PostingEntersTheList :
    let u : AttnEntry := { target := .zone 6, marks := 4, urgent := true }
    let r : AttnEntry := { target := .record 41, marks := 64, urgent := false }
    let a : Attention := { Attention.reset with entries := [u] ++ [r] }
    a.keeps .fireOnset = true ∧ (∀ e ∈ [u], e.urgent = true) ∧ (∀ e ∈ [r], e.urgent = false)
      ∧ (a.entries.Pairwise fun e f => e.target ≠ f.target) ∧ (∀ e ∈ a.entries, e.target ≠ .record 1)
      ∧ [u] = [] ++ u :: [] ∧ u.target = .zone 6 ∧ [r] = [] ++ r :: [] ∧ r.target = .record 41 := by decide
theorem witness_MasksAndEdgesFollowTheRequests_masks :
    world.port.state ≠ .working ∧ 63 < 64 ∧ 1023 < 1024 ∧ 64 ≤ 64 ∧ 1024 ≤ 1024 := by decide
theorem witness_MasksAndEdgesFollowTheRequests_edges :
    world.port.state ≠ .working ∧ (¬ ∃ v, some 1 = some v ∧ 2 ≤ v) ∧ (¬ ∃ v, (none : Option Nat) = some v ∧ 2 ≤ v)
      ∧ ∃ v, some 2 = some v ∧ 2 ≤ v :=
  ⟨by decide, by simp, by simp, 2, rfl, by decide⟩

theorem witness_StartsAndHalts_start :
    still.port.state ≠ .working ∧ still.network.state = .halted ∧ world.network.state ≠ .halted
      ∧ waiting.port.state = .working := by decide
theorem witness_StartsAndHalts_halt :
    let formed : FrameEndDue := { formed := true, halted := false, autoTest := true, hyper := false }
    let halts : FrameEndDue := { formed := false, halted := true, autoTest := true, hyper := false }
    let last : FrameEndDue := { formed := false, halted := true, autoTest := true, hyper := true }
    let s := { ended halts .halting with records := [(3, deviceAt 3)] }
    world.port.state ≠ .working ∧ world.network.state = .running ∧ still.network.state = .halted
      ∧ (ended formed .forming).timer.phase = .frameEnd formed ∧ formed.formed = true
      ∧ (ended formed .forming).network.state = .forming
      ∧ (ended last .halting).timer.phase = .frameEnd last ∧ last.hyper = true
      ∧ s.timer.phase = .frameEnd halts ∧ halts.halted = true ∧ halts.hyper = false
      ∧ (∀ e ∈ s.zones, ∀ f v, e.2.state ≠ .waiting f v 0) ∧ ∀ e ∈ s.records, e.2.lifecycle ≠ .retiring 0 :=
  ⟨by decide, by decide, by decide, by decide, by decide, by decide, by decide, by decide, by decide, by decide, by decide,
    by simp [ended, world, zones2], by decide⟩
theorem witness_SetParametersApplies :
    still.port.state ≠ .working ∧ still.network.state = .halted ∧ 65534 ≤ 65534
      ∧ [0, 15].length ≤ 4 ∧ (∀ x ∈ [0, 15], x ≤ 15) ∧ [0, 15].Nodup
      ∧ ∀ e ∈ still.records, ∀ P ∈ e.2.supervisedCadences, P * 8 ≤ 480 := by decide
theorem witness_SetParametersRefuses :
    world.port.state ≠ .working ∧ world.network.state ≠ .halted ∧ still.network.state = .halted ∧ 65534 < 65535
      ∧ ¬ [3, 3].Nodup ∧ ¬ (9 ≤ 8) ∧ ¬ (481 ≤ 480) ∧ ¬ (2 ≤ 1)
      ∧ (let s := { world with network := { world.network with params := { Params.reset with ceiling := 32 } } }
         TablesLegal s ∧ s.rec? 1 = some (deviceAt 1) ∧ 8 ∈ (deviceAt 1).supervisedCadences
           ∧ s.network.params.ceiling < 8 * 8 ∧ ∀ g < 1, s.rec? g = none)
      ∧ (let s := { world with network := { world.network with params := { Params.reset with missLimit := 8 } } }
         TablesLegal s ∧ s.rec? 1 = some (deviceAt 1) ∧ 32 < 8 * s.network.params.missLimit) :=
  ⟨by decide, by decide, by decide, by decide, by decide, by decide, by decide, by decide,
    ⟨⟨by decide, by decide, by decide, by decide⟩, rfl, by decide, by decide, by decide⟩,
    ⟨by decide, by decide, by decide, by decide⟩, rfl, by decide⟩
theorem witness_BeaconOpensTheFrame :
    let due : FrameEndDue := { formed := false, halted := false, autoTest := true, hyper := false }
    let s := { ended due .running with records := [(3, deviceAt 3)] }
    ({ world with timer := { frame := 0, phase := .beaconDue } } : State).timer.phase = .beaconDue
      ∧ s.timer.phase = .frameEnd due ∧ due.formed = false ∧ due.halted = false ∧ due.hyper = false
      ∧ s.autoConditions = false ∧ (∀ e ∈ s.zones, ∀ f v, e.2.state ≠ .waiting f v 0)
      ∧ (∀ e ∈ s.records, e.2.lifecycle ≠ .retiring 0) ∧ s.commissioning.window ≠ some 0
      ∧ ∀ c, s.monitor.changeover = some c → c.shownLast = false :=
  ⟨by decide, by decide, by decide, by decide, by decide, by decide, by simp [ended, world, zones2], by decide, by decide,
    by simp [ended, world, State.reset, Monitor.reset]⟩

/-- The small network in another slot of a frame. -/
def inSlot (frame slot : Nat) : State := { world with timer := { frame := frame, phase := .inSlot slot } }

/-- The same with a move of record 3 to cadence 16, phase 3 of lane 1 pending. -/
def moving (slot : Nat) : State :=
  { inSlot 3 slot with
    records := Tbl.set devices 3 { deviceAt 3 with next := some { lane := 1, cadence := 16, phase := 3 } } }

theorem witness_UplinkFrameChecked :
    MapLegal (inSlot 9 1) ∧ (inSlot 9 1).timer.phase = .inSlot (29000 / 25000) ∧ 25000 * 1 ≤ 29000 + 4000
      ∧ 29000 ≤ 25000 * 1 + 4000
      ∧ parseUplink (inSlot 9 1).network.params.networkId checkIn3 = some (.checkIn 3 report3 none)
      ∧ (∀ x ∈ (inSlot 9 1).held, x.slot ≠ 1) ∧ (inSlot 9 1).rec? 3 = some (deviceAt 3)
      ∧ (deviceAt 3).current = some { lane := 1, cadence := 8, phase := 1 } ∧ (inSlot 9 1).timer.frame % 8 = 1
      ∧ MapLegal (moving 0) ∧ (moving 0).timer.phase = .inSlot (21000 / 25000) ∧ 25000 * 1 ≤ 21000 + 4000
      ∧ ((moving 0).rec? 3).map Record.next = some (some { lane := 1, cadence := 16, phase := 3 })
      ∧ (moving 0).timer.frame % 16 = 3
      ∧ (inSlot 9 1).timer.phase = .inSlot 1 ∧ (moving 1).timer.phase = .inSlot 1 ∧ 21000 / 25000 ≠ 1 ∧ MapLegal (moving 1)
      ∧ (inSlot 10 1).timer.phase = .inSlot (25000 / 25000) ∧ (inSlot 10 1).timer.frame % 8 ≠ 1
      ∧ (inSlot 9 17).timer.phase = .inSlot (429000 / 25000) ∧ 429000 ≤ 25000 * 17 + 4000
      ∧ parseUplink 1 [0x06, 0x00, 0x01, 0x04, 0x04, 0x3F, 0xB0] = some (.leaving 4)
      ∧ parseUplink 1 [] = none ∧ (inSlot 9 1).timer.phase = .inSlot (40000 / 25000)
      ∧ ¬ (25000 * 1 ≤ 40000 + 4000 ∧ 40000 ≤ 25000 * 1 + 4000) := by
  refine ⟨mapLegal_of (by decide) (by decide) (by decide), by decide, by decide, by decide, by decide +kernel, by decide, rfl,
    by decide, by decide, mapLegal_of (by decide) (by decide) (by decide), by decide, by decide, by decide, by decide,
    by decide, by decide, by decide, mapLegal_of (by decide) (by decide) (by decide), by decide, by decide, by decide, by decide,
    by decide +kernel, by decide, by decide, by decide⟩
/-- A frame whose start lies in slot 1, in its window or after it, while the timer stands in slot 0. -/
theorem witness_UplinkFrameChecked_slotZero :
    MapLegal (inSlot 9 0) ∧ (inSlot 9 0).timer.phase = .inSlot 0 ∧ 25000 / 25000 = 1 ∧ 29000 / 25000 = 1
      ∧ 25000 * 1 ≤ 25000 + 4000 ∧ 29000 ≤ 25000 * 1 + 4000
      ∧ parseUplink (inSlot 9 0).network.params.networkId checkIn3 = some (.checkIn 3 report3 none)
      ∧ (∀ x ∈ (inSlot 9 0).held, x.slot ≠ 1) ∧ (inSlot 9 0).rec? 3 = some (deviceAt 3)
      ∧ (deviceAt 3).current = some { lane := 1, cadence := 8, phase := 1 } ∧ (inSlot 9 0).timer.frame % 8 = 1
      ∧ 29001 / 25000 = 1 ∧ ¬ (25000 * 1 ≤ 29001 + 4000 ∧ 29001 ≤ 25000 * 1 + 4000)
      ∧ ¬ (25000 * 2 ≤ 29001 + 4000 ∧ 29001 ≤ 25000 * 2 + 4000) :=
  ⟨mapLegal_of (by decide) (by decide) (by decide), by decide, by decide, by decide, by decide, by decide, by decide +kernel,
    by decide, rfl, by decide, by decide, by decide, by decide, by decide⟩
theorem witness_LaneSlotClosesUnheard :
    (inSlot 12 1).timer.phase = .inSlot 1 ∧ (∀ x ∈ (inSlot 12 1).held, x.slot ≠ 1) ∧ MapLegal (inSlot 12 1)
      ∧ (∀ e ∈ (inSlot 12 1).laneEntries, e.alloc.owns 1 12 = false)
      ∧ MapLegal world ∧ world.timer.phase = .inSlot 1 ∧ world.rec? 3 = some (deviceAt 3) ∧ (deviceAt 3).isPending = false
      ∧ (deviceAt 3).isActive = true ∧ (deviceAt 3).kind ≠ .relay ∧ (deviceAt 3).link.state ≠ .unreachable
      ∧ world.network.state = .running
      ∧ (deviceAt 3).current = some { lane := 1, cadence := 8, phase := 1 } ∧ world.timer.frame % 8 = 1
      ∧ (deviceAt 5).isPending = true ∧ (deviceAt 5).current = some { lane := 1, cadence := 8, phase := 2 }
      ∧ (inSlot 10 1).timer.frame % 8 = 2
      ∧ (let r := { deviceAt 4 with link := { goodLink with missRun := 2 } }
         let s := { inSlot 12 2 with records := Tbl.set devices 4 r }
         MapLegal s ∧ s.timer.phase = .inSlot 2 ∧ s.rec? 4 = some r ∧ r.isRetiring = true
           ∧ r.current = some { lane := 2, cadence := 4, phase := 0 } ∧ 12 % 4 = 0 ∧ s.children 4 = []
           ∧ s.network.params.missLimit ≤ 2 + 1 ∧ r.link.state ≠ .lost) :=
  ⟨by decide, by decide, mapLegal_of (by decide) (by decide) (by decide), by decide, world_map, by decide, rfl, by decide,
    by decide, by decide, by decide, by decide, by decide, by decide, by decide, by decide, by decide,
    mapLegal_of (by decide) (by decide) (by decide), by decide, rfl, by decide, by decide, by decide, by decide, by decide,
    by decide⟩
/-- The small network in which the check-in of record 3 waits for the close of its slot. -/
def heardLane (offset : Int) : State :=
  { world with
    held := [{ slot := 1, frame := .checkIn 3 report3 none, level := -80, offset := offset, senderVacated := false }] }

theorem witness_LaneSlotClosesHeard :
    MapLegal (heardLane 12) ∧ (heardLane 12).timer.phase = .inSlot 1 ∧ (heardLane 12).rec? 3 = some (deviceAt 3)
      ∧ (deviceAt 3).kind ≠ .relay ∧ (deviceAt 3).link.state ≠ .unreachable
      ∧ (deviceAt 3).current = some { lane := 1, cadence := 8, phase := 1 } ∧ (heardLane 12).timer.frame % 8 = 1
      ∧ (∀ z, (heardLane 12).zone? (deviceAt 3).zone = some z → z.mode ≠ .doubleKnock) :=
  ⟨mapLegal_of (by decide) (by decide) (by decide), by decide, rfl, by decide, by decide, by decide, by decide,
    by rintro z h; simp only [show (deviceAt 3).zone = 1 from rfl] at h; cases h; decide⟩
/-- The same from slot 0, before the first event of slot 1. -/
def heardFromZero : State := { heardLane 12 with timer := { frame := 9, phase := .inSlot 0 } }

theorem witness_LaneSlotClosesHeard_slotZero :
    MapLegal heardFromZero ∧ heardFromZero.timer.phase = .inSlot 0 ∧ heardFromZero.rec? 3 = some (deviceAt 3)
      ∧ (deviceAt 3).link.state ≠ .unreachable ∧ (deviceAt 3).current = some { lane := 1, cadence := 8, phase := 1 }
      ∧ heardFromZero.timer.frame % 8 = 1 :=
  ⟨mapLegal_of (by decide) (by decide) (by decide), by decide, rfl, by decide, by decide, by decide⟩
theorem witness_LaneSlotClosesUnheard_slotZero :
    MapLegal (inSlot 9 0) ∧ (inSlot 9 0).timer.phase = .inSlot 0 ∧ (∀ x ∈ (inSlot 9 0).held, x.slot ≠ 1)
      ∧ (inSlot 9 0).rec? 3 = some (deviceAt 3) ∧ (inSlot 9 0).timer.frame % 8 = 1
      ∧ MapLegal (inSlot 12 0) ∧ ∀ e ∈ (inSlot 12 0).laneEntries, e.alloc.owns 1 12 = false :=
  ⟨mapLegal_of (by decide) (by decide) (by decide), by decide, by decide, rfl, by decide,
    mapLegal_of (by decide) (by decide) (by decide), by decide⟩
/-- The check-in of record 3 in the cell of its next allocation, with a settings version that does not confirm the move. -/
def heardNext : State :=
  { moving 1 with
    held := [{ slot := 1, frame := .checkIn 3 { report3 with version := 1 } none, level := -80, offset := 12,
               senderVacated := false }] }

theorem witness_LaneSlotClosesHeard_next :
    MapLegal heardNext ∧ heardNext.timer.phase = .inSlot 1
      ∧ (∃ r, heardNext.rec? 3 = some r ∧ r.kind ≠ .relay ∧ r.link.state ≠ .unreachable
          ∧ r.next = some { lane := 1, cadence := 16, phase := 3 } ∧ r.version ≠ 1) ∧ heardNext.timer.frame % 16 = 3
      ∧ heardNext.timer.frame % 8 ≠ 1 ∧ heardNext.queue.length + 1 < 24 :=
  ⟨mapLegal_of (by decide) (by decide) (by decide), by decide, ⟨_, rfl, by decide, by decide, by decide, by decide⟩,
    by decide, by decide, by decide⟩
theorem witness_HeardReportPostsAndRequests :
    MapLegal (heardLane 2000) ∧ (heardLane 2000).timer.phase = .inSlot 1 ∧ (heardLane 2000).rec? 3 = some (deviceAt 3)
      ∧ (deviceAt 3).kind ≠ .relay ∧ (deviceAt 3).link.state ≠ .unreachable
      ∧ (deviceAt 3).current = some { lane := 1, cadence := 8, phase := 1 } ∧ (heardLane 2000).timer.frame % 8 = 1
      ∧ report3.fire = (deviceAt 3).cond.fire ∧ (deviceAt 3).kind ≠ .callPoint ∧ (heardLane 2000).queue.length + 2 < 24
      ∧ (12 : Int).natAbs ≤ (heardLane 12).network.params.guard
      ∧ (heardLane 2000).network.params.guard < (2000 : Int).natAbs
      ∧ (let s := { world with
           held := [{ slot := 1, frame := .checkIn 3 { report3 with fire := .alarm } none, level := -80, offset := 12,
                      senderVacated := false }] }
         MapLegal s ∧ s.rec? 3 = some (deviceAt 3) ∧ (deviceAt 3).cond.fire ≠ .alarm) :=
  ⟨mapLegal_of (by decide) (by decide) (by decide), by decide, rfl, by decide, by decide, by decide, by decide, by decide,
    by decide, by decide, by decide, by decide, mapLegal_of (by decide) (by decide) (by decide), rfl, by decide⟩

/-- The roll-call of relay 1: its children 2 and 4's relay heard, 4 heard below it, 3 not heard, 5 and 6 silent. -/
def roll1 : RollCall :=
  let e : RollEntry := { child := 2, relay := 1, heard := true, hasVersion := true, margin := 30, fire := 0, seq := 1,
                         faults := 0, battery := 90, version := 2, childVersion := 7 }
  { version := 7, entries := [e, { e with child := 4, relay := 2, fire := 2 }, { e with child := 3, heard := false }] }

/-- The six records, with the check-in of relay 1 waiting for the close of its slot. -/
def rolled (roll : Option RollCall) : State :=
  { carried goodLink with
    held := [{ slot := 1, frame := .checkIn 1 report3 roll, level := -80, offset := 12, senderVacated := false }] }

theorem witness_RollCallWalked :
    (∀ roll, MapLegal (rolled roll) ∧ TreeLegal (rolled roll) ∧ ReachLegal (rolled roll)
        ∧ (rolled roll).timer.phase = .inSlot 1 ∧ (rolled roll).network.state = .running
        ∧ (rolled roll).rec? 1 = some (memberAt 1) ∧ (rolled roll).rec? 2 = some (memberAt 2))
      ∧ (memberAt 1).kind = .relay ∧ (memberAt 1).route = some { version := 7, reported := none, staleRun := 0 }
      ∧ (memberAt 1).link.state.isDown = false ∧ (memberAt 1).current = some { lane := 1, cadence := 8, phase := 1 }
      ∧ (rolled none).timer.frame % 8 = 1
      ∧ (∃ e f, roll1.entries.find? (·.child == 2) = some e ∧ e.relay = 1 ∧ e.heard = true ∧ e.margin ≤ 63 ∧ e.fire ≤ 2
          ∧ e.faults ≤ 15 ∧ roll1.entries.find? (·.child == 4) = some f ∧ f.relay = 2 ∧ f.heard = true ∧ f.margin ≤ 63
          ∧ f.fire ≤ 2 ∧ f.faults ≤ 15)
      ∧ (memberAt 2).settings.parent = 1 ∧ (memberAt 2).kind = .relay ∧ (memberAt 2).link.state.isDown = false
      ∧ (memberAt 2).route.isSome = true ∧ (memberAt 4).settings.parent = 2
      ∧ (∀ e, roll1.entries.find? (·.child == 3) = some e → e.heard = false)
      ∧ roll1.entries.find? (·.child == 5) = none
      ∧ (∃ t, exec .laneSlotClose (rolled none) = .next t ∧ (t.rec? 2).map (·.link.state) = some .linked) :=
  ⟨fun _ => ⟨⟨carried_map.tables, carried_map.records, carried_map.apart⟩,
      ⟨⟨carried_tables.records, carried_tables.zones, carried_tables.handles, carried_tables.zoneNumbers⟩,
        carried_tree.parents, carried_tree.depth, carried_tree.children, carried_tree.descendants⟩,
      ⟨carried_reach.pending, carried_reach.active, carried_reach.retiring⟩, rfl, rfl, rfl, rfl⟩,
    by decide, by decide, by decide, by decide, by decide, ⟨_, _, rfl, rfl, rfl, by decide, by decide, by decide, rfl, rfl, rfl, by decide, by decide, by decide⟩,
    by decide, by decide, by decide, by decide, by decide, by decide, by decide, _, rfl, by decide⟩
/-- The same with relay 1 heard in the cell of its next allocation, in frame 3. -/
def rolledNext : State :=
  { rolled (some roll1) with
    records := Tbl.set family 1 { memberAt 1 with next := some { lane := 1, cadence := 16, phase := 3 } },
    timer := { frame := 3, phase := .inSlot 1 } }

theorem witness_RollCallWalked_next :
    MapLegal rolledNext ∧ TreeLegal rolledNext ∧ ReachLegal rolledNext ∧ rolledNext.network.state = .running
      ∧ (∃ r, rolledNext.rec? 1 = some r ∧ r.kind = .relay ∧ r.route = some { version := 7, reported := none, staleRun := 0 }
          ∧ r.link.state.isDown = false ∧ r.next = some { lane := 1, cadence := 16, phase := 3 })
      ∧ rolledNext.timer.frame % 16 = 3 :=
  ⟨mapLegal_of (by decide) (by decide) (by decide),
    treeLegal_of ⟨by decide, by decide, by decide, by decide⟩ (by decide) (by decide) (by decide) (by decide),
    reachLegal_of (by decide), by decide, ⟨_, rfl, by decide, by decide, by decide, by decide⟩, by decide⟩
/-- The check-in of relay 1, LOST, in its cell of frame 9, of a network in a state. -/
def lostRolled (history : List Result) (st : NetState) : State :=
  { severed with
    records := Tbl.set severed.records 1
      { memberAt 1 with link := { goodLink with state := .lost, history := history } },
    network := { world.network with state := st },
    held := [{ slot := 1, frame := .checkIn 1 report3 (some roll1), level := -80, offset := 12, senderVacated := false }] }

/-- The check-in of relay 1 where relay 2, LOST, is heard and its child 4 is UNREACHABLE; the entry of 4 stands before or after
its relay's. -/
def lostSecond (entries : List RollEntry) : State :=
  { rolled (some { roll1 with entries := entries }) with
    records := Tbl.set (Tbl.set family 2
        { memberAt 2 with link := { goodLink with state := .lost, history := List.replicate 8 .heard } }) 4
      { memberAt 4 with link := { goodLink with state := .unreachable } } }

/-- LOST relays: one that recovers and one that does not, a FORMING network, and a second-level relay that recovers by its
entry. -/
theorem witness_RollCallWalked_lost :
    (∀ st, MapLegal (lostRolled [] st) ∧ TreeLegal (lostRolled [] st) ∧ ReachLegal (lostRolled [] st))
      ∧ (let s := lostRolled (List.replicate 7 .heard) .forming
         MapLegal s ∧ TreeLegal s ∧ ReachLegal s ∧ s.network.state = .forming)
      ∧ (lostRolled [] .running).timer.phase = .inSlot 1 ∧ (lostRolled [] .running).timer.frame % 8 = 1
      ∧ ((lostRolled [] .running).rec? 1).map (fun r => (r.kind, r.link.state)) = some (.relay, .lost)
      ∧ (let b := { goodLink with state := .lost }
         (b.evaluated Params.reset .heard 32).state = .lost
           ∧ ({ b with history := List.replicate 7 .heard }.evaluated Params.reset .heard 32).state = .linked)
      ∧ (∀ entries, MapLegal (lostSecond entries) ∧ TreeLegal (lostSecond entries) ∧ ReachLegal (lostSecond entries))
      ∧ ((lostSecond []).rec? 2).map (fun r => (r.link.state, r.settings.parent)) = some (.lost, 1)
      ∧ (roll1.entries.reverse.findIdx (·.child == 4) < roll1.entries.reverse.findIdx (·.child == 2)
        ∧ ¬ roll1.entries.findIdx (·.child == 4) < roll1.entries.findIdx (·.child == 2))
      ∧ ((goodLink.evaluated Params.reset .heard 30).state = .linked) := by
  have m : MapLegal (lostRolled [] .running) := mapLegal_of (by decide) (by decide) (by decide)
  have tr : TreeLegal (lostRolled [] .running) :=
    treeLegal_of ⟨by decide, by decide, by decide, by decide⟩ (by decide) (by decide) (by decide) (by decide)
  have re : ReachLegal (lostRolled [] .running) := reachLegal_of (by decide)
  have m2 : MapLegal (lostSecond []) := mapLegal_of (by decide) (by decide) (by decide)
  have tr2 : TreeLegal (lostSecond []) :=
    treeLegal_of ⟨by decide, by decide, by decide, by decide⟩ (by decide) (by decide) (by decide) (by decide)
  have re2 : ReachLegal (lostSecond []) := reachLegal_of (by decide)
  exact ⟨fun _ => ⟨⟨m.tables, m.records, m.apart⟩,
      ⟨⟨tr.tables.records, tr.tables.zones, tr.tables.handles, tr.tables.zoneNumbers⟩, tr.parents, tr.depth, tr.children,
        tr.descendants⟩, ⟨re.pending, re.active, re.retiring⟩⟩,
    ⟨mapLegal_of (by decide) (by decide) (by decide),
      treeLegal_of ⟨by decide, by decide, by decide, by decide⟩ (by decide) (by decide) (by decide) (by decide),
      reachLegal_of (by decide), by decide⟩,
    by decide, by decide, by decide, by decide,
    fun _ => ⟨⟨m2.tables, m2.records, m2.apart⟩,
      ⟨⟨tr2.tables.records, tr2.tables.zones, tr2.tables.handles, tr2.tables.zoneNumbers⟩, tr2.parents, tr2.depth,
        tr2.children, tr2.descendants⟩, ⟨re2.pending, re2.active, re2.retiring⟩⟩,
    by decide, by decide, by decide⟩
theorem witness_HeardReportPostsAndRequests_relay :
    MapLegal (rolled (some roll1)) ∧ TreeLegal (rolled (some roll1)) ∧ ReachLegal (rolled (some roll1))
      ∧ (rolled (some roll1)).rec? 1 = some (memberAt 1) ∧ (memberAt 1).kind = .relay
      ∧ (rolled (some roll1)).queue.length + 4 + 3 * roll1.entries.length ≤ 24
      ∧ (12 : Int).natAbs ≤ (rolled (some roll1)).network.params.guard
      ∧ (rolled (some roll1)).network.params.guard < (2000 : Int).natAbs :=
  ⟨⟨carried_map.tables, carried_map.records, carried_map.apart⟩,
    ⟨⟨carried_tables.records, carried_tables.zones, carried_tables.handles, carried_tables.zoneNumbers⟩,
      carried_tree.parents, carried_tree.depth, carried_tree.children, carried_tree.descendants⟩,
    ⟨carried_reach.pending, carried_reach.active, carried_reach.retiring⟩, rfl, by decide, by decide, by decide, by decide⟩
/-- The small network in open slot 17 with a frame accepted in it. -/
def heldOpen (f : Uplink) : State :=
  { inSlot 9 17 with held := [{ slot := 17, frame := f, level := -95, offset := 0, senderVacated := false }] }

theorem witness_OpenSlotCloses :
    (inSlot 9 15).timer.phase = .inSlot 15 ∧ (∀ x ∈ (inSlot 9 15).held, x.slot ≠ 15)
      ∧ (heldOpen (.leaving 4)).timer.phase = .inSlot 17
      ∧ (heldOpen (.leaving 4)).held =
          [] ++ { slot := 17, frame := .leaving 4, level := -95, offset := 0, senderVacated := false } :: []
      ∧ (heldOpen (.leaving 4)).rec? 4 = some (deviceAt 4) ∧ (deviceAt 4).lifecycle = .retiring 0
      ∧ (deviceAt 3).isRetiring = false
      ∧ RegistryLegal (heldOpen (.join 0x55 .callPoint 0)) ∧ (deviceAt 5).serial = 0x55
      ∧ (heldOpen (.join 0x55 .callPoint 0)).rec? 5 = some (deviceAt 5) ∧ (deviceAt 5).isPending = true
      ∧ (deviceAt 5).settings.parent = 0 ∧ (deviceAt 5).link.state ≠ .unreachable
      ∧ (heldOpen (.join 0x55 .callPoint 0)).queue.length < 24 ∧ 1 ≠ (deviceAt 5).settings.parent
      ∧ RegistryLegal (heldOpen (.join 0x33 .detector 9)) ∧ (deviceAt 3).serial = 0x33
      ∧ (heldOpen (.join 0x33 .detector 9)).rec? 3 = some (deviceAt 3) ∧ (deviceAt 3).isActive = true
      ∧ (deviceAt 3).link.state ≠ .unreachable ∧ (severed.rec? 3).map (·.link.state) = some .unreachable
      ∧ (let s := { heldOpen (.join 0x3A0C4F1E27 .detector 0) with commissioning := (joining (some 594)).commissioning }
         (∀ e ∈ s.records, e.2.serial ≠ 0x3A0C4F1E27) ∧ s.commissioning.window = some 594
           ∧ s.commissioning.filterA.enabled = true ∧ s.commissioning.filterA.length = 16
           ∧ (∀ i < 16, s.commissioning.filterA.value.getLsbD (39 - i) = (0x3A0C4F1E27 : Serial).getLsbD (39 - i))
           ∧ (∀ c ∈ s.commissioning.candidates, c.serial ≠ 0x3A0C4F1E27) ∧ s.commissioning.candidates.length < 8)
      ∧ (let c : Candidate := { serial := 0x3A0C4F1E27, kind := .detector, via := 1, margin := 2, attempts := 255, frame := 3 }
         [c] = [] ++ c :: [] ∧ (∀ x ∈ ([] ++ [] : List Candidate), x.serial ≠ c.serial))
      ∧ 8 ≤ (List.replicate 8 (0 : Nat)).length
      ∧ (heldOpen (.join 0x3A0C4F1E27 .detector 0)).commissioning.filterA.enabled = false
      ∧ (heldOpen (.join 0x3A0C4F1E27 .detector 0)).commissioning.filterB.enabled = false
      ∧ (heldOpen (.join 0x3A0C4F1E27 .detector 0)).commissioning.window = none :=
  ⟨by decide, by decide, by decide, by decide, rfl, by decide, by decide,
    registryLegal_of ⟨by decide, by decide, by decide, by decide⟩ (by decide) (by decide), by decide, rfl, by decide,
    by decide, by decide, by decide, by decide,
    registryLegal_of ⟨by decide, by decide, by decide, by decide⟩ (by decide) (by decide), by decide, rfl, by decide,
    by decide, by decide, by decide, by decide, by decide, by decide, by decide, by decide⟩
theorem witness_AlarmFrameRaisesFire :
    let s := heldOpen (.alarm 3 0 .alarm 6)
    s.timer.phase = .inSlot 17
      ∧ s.held = [{ slot := 17, frame := .alarm 3 0 .alarm 6, level := -95, offset := 0, senderVacated := false }]
      ∧ s.rec? 3 = some (deviceAt 3) ∧ (deviceAt 3).kind = .detector ∧ (deviceAt 3).isMember = true
      ∧ (deviceAt 3).disabled = false ∧ (deviceAt 3).settings.parent = 0 ∧ (deviceAt 3).link.state ≠ .unreachable
      ∧ (deviceAt 3).cond.fire ≠ .alarm ∧ (deviceAt 3).cond.lastSeq ≠ some 6 ∧ (deviceAt 3).zone = 1
      ∧ s.zone? 1 = some { mode := .single, window := 60, disabled := false, state := .quiet } ∧ s.queue.length < 24
      ∧ |(0 : Int)| ≤ s.network.params.guard ∧ s.rec? 9 = none
      ∧ ({ Condition.fresh with lastSeq := some 6 } : Condition).lastSeq = some 6 :=
  ⟨by decide, by decide, rfl, by decide, by decide, by decide, by decide, by decide, by decide, by decide, by decide,
    by decide, by decide, by decide, by decide, by decide⟩
theorem witness_DownlinkSlotServesTheBest :
    let s := { world with
      timer := { frame := 9, phase := .downlinkDue },
      queue := [{ dest := 2, msg := .settings }, { dest := 3, msg := .rearm }, { dest := 5, msg := .joinGrant }] }
    s.timer.phase = .downlinkDue
      ∧ s.queue = [{ dest := 2, msg := .settings }] ++ { dest := 3, msg := .rearm } :: [{ dest := 5, msg := .joinGrant }]
      ∧ s.eligible { dest := 3, msg := .rearm } = true ∧ s.eligible { dest := 5, msg := .joinGrant } = false
      ∧ s.rec? 3 = some (deviceAt 3)
      ∧ (∀ x ∈ [({ dest := 2, msg := .settings } : QueueEntry)], s.eligible x = true → Msg.rearm.rank < x.msg.rank)
      ∧ (∀ x ∈ [({ dest := 5, msg := .joinGrant } : QueueEntry)], s.eligible x = true → Msg.rearm.rank ≤ x.msg.rank)
      ∧ ({ inSlot 9 18 with queue := [{ dest := 5, msg := .joinGrant }] } : State).eligible
          { dest := 5, msg := .joinGrant } = false :=
  ⟨by decide, by decide, by decide, by decide, rfl, by decide, by decide, by decide⟩
theorem witness_FrameEndAdvances : (inSlot 127 19).timer.phase = .inSlot 19 := by decide
theorem witness_ZoneWindowAndOnsetDecisions_window :
    let zn : Zone := { mode := .coincidence, window := 60, disabled := false, state := .waiting 3 false 0 }
    let s := zoned .coincidence (.waiting 3 false 0)
    let u := { s with
      records := Tbl.set devices 3 { deviceAt 3 with cond := { Condition.fresh with fire := .alarm } } }
    s.zone? 1 = some zn ∧ u.zone? 1 = some zn
      ∧ (∃ e ∈ u.records, e.2.isMember = true ∧ e.2.zone = 1 ∧ e.2.disabled = false ∧ e.2.cond.fire ≠ .none)
      ∧ (∀ e ∈ s.records, e.2.isMember = true → e.2.zone = 1 → e.2.disabled = false → e.2.cond.fire = .none)
      ∧ world.zone? 1 = some { mode := .single, window := 60, disabled := false, state := .quiet } := by decide
theorem witness_ZoneWindowAndOnsetDecisions_fire :
    let rep := fun (f : FireState) => { deviceAt 3 with cond := { Condition.fresh with fire := f } }
    let s := fun (f : FireState) => { zoned .single .prealarm with records := Tbl.set devices 3 (rep f) }
    (∀ f, (s f).rec? 3 = some (rep f) ∧ (rep f).cond.fire = f ∧ (rep f).isMember = true ∧ (rep f).disabled = false)
      ∧ (s .none).zone? 1 = some { mode := .single, window := 60, disabled := false, state := .prealarm }
      ∧ (∀ e ∈ (s .none).records, e.2.isMember = true → e.2.zone = 1 → e.2.disabled = false → e.2.cond.fire = .none)
      ∧ (∃ e ∈ (s .alarm).records, e.2.isMember = true ∧ e.2.zone = 1 ∧ e.2.disabled = false ∧ e.2.cond.fire ≠ .none)
      ∧ world.rec? 9 = none :=
  ⟨fun _ => ⟨rfl, rfl, rfl, rfl⟩, by decide, by decide, by decide, by decide⟩
theorem witness_ZoneWindowAndOnsetDecisions_onset :
    let single : Zone := { mode := .single, window := 60, disabled := false, state := .quiet }
    let knock : Zone := { mode := .doubleKnock, window := 60, disabled := false, state := .waiting 3 false 12 }
    world.zone? 1 = some single ∧ single.state ≠ .fire ∧ single.mode = .single
      ∧ (zoned .doubleKnock (.waiting 3 false 12)).zone? 1 = some knock ∧ knock.mode ≠ .coincidence
      ∧ (zoned .coincidence .quiet).zone? 1 = some { single with mode := .coincidence }
      ∧ (zoned .doubleKnock .prealarm).zone? 1 = some { single with mode := .doubleKnock, state := .prealarm }
      ∧ (zoned .doubleKnock .prealarm).rec? 3 = some (deviceAt 3)
      ∧ (zoned .doubleKnock .prealarm).queue.length < 24 ∧ (zoned .doubleKnock .prealarm).admits 3 .rearm = true
      ∧ (zoned .coincidence (.waiting 3 false 12)).zone? 1 = some { knock with mode := .coincidence }
      ∧ (zoned .single .fire).zone? 1 = some { single with state := .fire } := by decide
theorem witness_LossAndRecoveryReachTheChildren :
    (let b := { goodLink with missRun := 2 }
     let s := carried b
     TreeLegal s ∧ ReachLegal s ∧ s.network.state = .running ∧ (∃ r, s.rec? 1 = some r ∧ r.kind = .relay ∧ r.isActive = true
       ∧ r.link = b) ∧ b.state.isDown = false ∧ (b.evaluated s.network.params .missed 0).state = .lost
       ∧ s.Below 1 (memberAt 2) ∧ s.Below 1 (memberAt 4) ∧ s.attention.keeps .linkOnset = true
       ∧ s.attention.keeps .lifecycle = true ∧ (memberAt 5).isRetiring = true)
      ∧ TreeLegal severed ∧ ReachLegal severed
      ∧ (∃ r, severed.rec? 1 = some r ∧ r.kind = .relay ∧ r.isActive = true ∧ r.link.state = .lost
          ∧ (r.link.evaluated severed.network.params .heard 30).state ≠ .lost)
      ∧ severed.rec? 6 = some (memberAt 6) ∧ (memberAt 6).isPending = true ∧ severed.chainBroken 6 = true
      ∧ severed.children 6 = []
      ∧ (∃ q, severed.rec? 2 = some q ∧ q.isPending = false ∧ q.link.state = .unreachable)
      ∧ MapLegal (carried goodLink) ∧ (carried goodLink).timer.phase = .inSlot 1
      ∧ (∀ x ∈ (carried goodLink).held, x.slot ≠ 1)
      ∧ (memberAt 1).current = some { lane := 1, cadence := 8, phase := 1 } ∧ (carried goodLink).timer.frame % 8 = 1 :=
  ⟨⟨treeLegal_of ⟨by decide, by decide, by decide, by decide⟩ (by decide) (by decide) (by decide) (by decide),
      reachLegal_of (by decide), rfl, ⟨_, rfl, rfl, rfl, rfl⟩, by decide, by decide, .inl rfl, .inr rfl, by decide, by decide,
      by decide⟩,
    severed_tree, severed_reach, ⟨_, rfl, rfl, rfl, rfl, by decide⟩, rfl, by decide, by decide, by decide,
    ⟨_, rfl, rfl, rfl⟩, carried_map, by decide, by decide, by decide, by decide⟩
theorem witness_CadenceClampGrants : 2 ≤ 8 ∧ 8 ≤ 8 ∧ 32 ≤ 32 ∧ 32 ≤ 480 := by decide
theorem witness_CollisionAndFirstFit :
    Alloc.Legal { lane := 14, cadence := 128, phase := 127 } ∧ Alloc.Legal { lane := 14, cadence := 1, phase := 0 } :=
  ⟨⟨by decide, by decide, by decide⟩, ⟨by decide, by decide, by decide⟩⟩
theorem witness_LqfMovesTowardMargin : 1008 ≤ 1008 ∧ 63 ≤ 63 := by decide
theorem witness_QueueTakesRequests :
    let full := List.replicate 24 ({ dest := 1, msg := .settings } : QueueEntry)
    QueueEntry.samePair { dest := 3, msg := .alarmAck 1 } { dest := 3, msg := .alarmAck 2 } = true
      ∧ QueueEntry.samePair { dest := 3, msg := .alarmAck 1 } { dest := 3, msg := .rearm } = false
      ∧ full = List.replicate 23 { dest := 1, msg := .settings } ++ { dest := 1, msg := .settings } :: []
      ∧ 24 ≤ full.length ∧ (∀ y ∈ full, y.samePair { dest := 3, msg := .rearm } = false)
      ∧ Msg.rearm.rank < Msg.settings.rank
      ∧ (∀ y ∈ full, y.samePair { dest := 3, msg := .timeCorrection 1 } = false
          ∧ y.msg.rank ≤ (Msg.timeCorrection 1).rank)
      ∧ world.admits 160 .rearm = false ∧ world.admits 3 .rearm = true ∧ Flag.queueOverflow ≠ .formed := by decide
theorem witness_RelayJudgedByRollCall :
    world.rec? 1 = some (deviceAt 1) ∧ (deviceAt 1).route = some { version := 7, reported := none, staleRun := 0 }
      ∧ (none : Option Version) ≠ some 7 ∧ some (8 : Version) ≠ some 7 ∧ world.admits 1 .routeUpdate = true
      ∧ world.queue.length < 24 ∧ TablesLegal (carried goodLink)
      ∧ (∀ e ∈ (carried goodLink).acceptedEntries 1 roll1.entries, e.child ∈ [2, 3, 4])
      ∧ ((carried goodLink).acceptedEntries 1 roll1.entries).length = 3 :=
  ⟨rfl, by decide, by decide, by decide, by decide, by decide, carried_tables, by decide, by decide⟩

end Sys2Proof.Tests
end

section
/-! The registry lookups: READ_RECORD and FIND_SERIAL (1.9, R26, R27), OPEN_ZONE_PAGE and READ_NEXT (R28, R29). -/

namespace Sys2Proof.Machine

/-! ### Lists and tables -/

/-- In a canonical table, reading and membership are one. -/
theorem Tbl.get_eq_some_iff {α : Type} {t : Tbl α} (hc : Tbl.Canonical t) {n : Nat} {v : α} :
    Tbl.get t n = some v ↔ (n, v) ∈ t :=
  ⟨Tbl.mem_of_get, Tbl.get_of_mem hc⟩

/-- In a list sorted by key, a search finds the entry that has the least key of those it looks for, where it alone has it. -/
theorem find?_eq_some_of_least {α : Type} {key : α → Nat} {l : List α} {p : α → Bool} {x : α}
    (sorted : l.Pairwise fun a b => key a ≤ key b) (mem : x ∈ l) (px : p x = true)
    (least : ∀ y ∈ l, p y = true → y = x ∨ key x < key y) : l.find? p = some x := by
  cases found : l.find? p with
  | none => exact absurd px (List.find?_eq_none.mp found x mem)
  | some y =>
    obtain ⟨py, before, after, rfl, skipped⟩ := List.find?_eq_some_iff_append.mp found
    rcases least y (by simp) py with rfl | above
    · rfl
    rcases List.mem_append.mp mem with early | late
    · exact absurd px (by simpa using skipped x early)
    · have tail_sorted := (List.pairwise_append.mp sorted).2.1
      rcases List.mem_cons.mp late with rfl | late
      · rfl
      · exact absurd (List.rel_of_pairwise_cons tail_sorted late) (by omega)

/-! ### What a request taken leaves -/

@[simp] theorem State.members_takeRequest (s : State) (z : Nat) : s.takeRequest.members z = s.members z := rfl
@[simp] theorem State.readRecord_takeRequest (s : State) (h : Nat) : s.takeRequest.readRecord h = s.readRecord h := rfl
@[simp] theorem State.lookupSerial_takeRequest (s : State) (serial : Serial) :
    s.takeRequest.lookupSerial serial = s.lookupSerial serial := rfl

/-- A request whose handling leaves the state as it is changes the port alone (R174). -/
theorem State.serve_unchanged {s : State} (hw : s.port.state ≠ .working) {kind : Byte} {body : State → State × Reply}
    {r : Reply} (hb : body s.takeRequest = (s.takeRequest, r)) :
    s.serve kind body = .next (s.setPort (s.port.answering kind r)) := by
  rw [State.serve_taken hw, hb]; rfl

/-- A request whose handling moves the page cursor changes the cursor and the port alone (R174). -/
theorem State.serve_setCursor {s : State} (hw : s.port.state ≠ .working) {kind : Byte} {body : State → State × Reply}
    {c : Option (Nat × Nat)} {r : Reply} (hb : body s.takeRequest = (s.takeRequest.setCursor c, r)) :
    s.serve kind body = .next { s with cursor := c, port := s.port.answering kind r } := by
  rw [State.serve_taken hw, hb]; rfl

/-! ### READ_RECORD and FIND_SERIAL -/

/-- READ_RECORD taken: its answer is placed and nothing else changes (R26). -/
theorem exec_readRecord {s : State} (hw : s.port.state ≠ .working) (h : Nat) :
    exec (.readRecord h) s = .next (s.setPort (s.port.answering 5 (s.readRecord h))) := by
  show s.serveRead 5 (fun s => s.readRecord h) = _
  simp [State.serveRead_taken hw]

/-- FIND_SERIAL taken: its answer is placed and nothing else changes (R27). -/
theorem exec_findSerial {s : State} (hw : s.port.state ≠ .working) (serial : Serial) :
    exec (.findSerial serial) s = .next (s.setPort (s.port.answering 6 (s.lookupSerial serial))) := by
  show s.serveRead 6 (fun s => s.lookupSerial serial) = _
  simp [State.serveRead_taken hw]

theorem State.readRecord_outOfRange (s : State) {h : Nat} (hh : isHandle h = false) :
    s.readRecord h = .refuseAt .outOfRange 1 := by
  simp [State.readRecord, hh, Reply.outOfRange]

theorem State.readRecord_vacant {s : State} {h : Nat} (hh : isHandle h = true) (hr : s.rec? h = none) :
    s.readRecord h = .refuse .noSuchRecord := by
  simp [State.readRecord, hh, hr]

theorem State.readRecord_some {s : State} {h : Nat} {r : Record} (hh : isHandle h = true) (hr : s.rec? h = some r) :
    s.readRecord h = .ok (.record h r (if r.isRelay then s.childList h else [])) := by
  simp [State.readRecord, hh, hr]

/-- The number of a record that is present is a handle (R1). -/
theorem TablesLegal.isHandle_of_rec? {s : State} (hs : TablesLegal s) {h : Nat} {r : Record} (hr : s.rec? h = some r) :
    isHandle h = true :=
  hs.handles _ (Tbl.mem_of_get hr)

/-- A relay's child list is in ascending handle order (R101). -/
theorem State.childList_ascending {s : State} (hc : Tbl.Canonical s.records) (h : Nat) :
    (s.childList h).Pairwise (· < ·) :=
  List.Pairwise.sublist (List.Sublist.map _ List.filter_sublist) hc

/-- A relay's child list holds the PENDING and ACTIVE records that name it as their parent (R101). -/
theorem State.mem_childList {s : State} (hc : Tbl.Canonical s.records) {g h : Nat} :
    g ∈ s.childList h ↔ ∃ q, s.rec? g = some q ∧ q.settings.parent = h ∧ q.isMember = true := by
  simp [State.childList, State.rec?, Tbl.get_eq_some_iff hc]

/-- No two records hold one serial (R2), so the search for it finds the record that does. -/
theorem State.findSerial_of_rec? {s : State} (hs : RegistryLegal s) {h : Nat} {r : Record} (hr : s.rec? h = some r) :
    s.findSerial r.serial = some (h, r) := by
  unfold State.findSerial
  cases found : s.records.find? fun e => e.2.serial == r.serial with
  | none => simpa using List.find?_eq_none.mp found _ (Tbl.mem_of_get hr)
  | some e =>
    obtain ⟨g, q⟩ := e
    have hq : s.rec? g = some q := Tbl.get_of_mem hs.tables.records (List.mem_of_find?_eq_some found)
    have same : q.serial = r.serial := by simpa using List.find?_some found
    obtain rfl : g = h := hs.serials g h q r hq hr same
    rw [Option.some.inj (hq.symm.trans hr)]

theorem State.findSerial_eq_none {s : State} {serial : Serial} (absent : ∀ e ∈ s.records, e.2.serial ≠ serial) :
    s.findSerial serial = none := by
  simpa [State.findSerial] using fun g q => absent (g, q)

/-- Settles O24: each lookup is a read (exec_readRecord, exec_findSerial); the child list is the canonical record table
filtered, and the serial search is decided by R2. -/
theorem recordLookupsAnswer : Obligations.RecordLookupsAnswer := by
  refine ⟨fun s h hw hh => ?outOfRange, fun s h hw hh hr => ?vacant, fun s h r hs hw hr => ?answered,
    fun s h r hs hw hr => ?found, fun s serial hw absent => ?absent⟩
  case outOfRange => rw [exec_readRecord hw, State.readRecord_outOfRange s hh]
  case vacant => rw [exec_readRecord hw, State.readRecord_vacant hh hr]
  case answered =>
    refine ⟨_, by rw [exec_readRecord hw, State.readRecord_some (hs.isHandle_of_rec? hr) hr], ?_⟩
    by_cases relay : r.kind = .relay
    · simp only [Record.isRelay, relay, beq_self_eq_true, if_true, true_and]
      exact ⟨State.childList_ascending hs.records h, fun g => State.mem_childList hs.records⟩
    · simp [Record.isRelay, relay]
  case found => rw [exec_findSerial hw, State.lookupSerial, State.findSerial_of_rec? hs hr]
  case absent => rw [exec_findSerial hw, State.lookupSerial, State.findSerial_eq_none absent]

/-! ### OPEN_ZONE_PAGE and READ_NEXT -/

/-- A zone's member list holds the PENDING and ACTIVE records of the zone with their member numbers (R3, R44). -/
theorem State.mem_members {s : State} {z : Nat} {x : Nat × Nat} :
    x ∈ s.members z ↔ ∃ q, (x.1, q) ∈ s.records ∧ q.isMember = true ∧ q.zone = z ∧ q.member = x.2 := by
  obtain ⟨g, m⟩ := x
  simp [State.members, and_assoc]

theorem State.length_members (s : State) (z : Nat) :
    (s.members z).length = (s.records.filter fun e => e.2.isMember && e.2.zone == z).length := by
  simp [State.members]

/-- Where a zone has no member above a number, the search past it finds none (R29). -/
theorem State.find?_members_none {s : State} {z last : Nat}
    (above : ∀ e ∈ s.records, e.2.isMember = true → e.2.zone = z → e.2.member ≤ last) :
    (s.members z).find? (fun m => last < m.2) = none := by
  refine List.find?_eq_none.mpr fun x hx => ?_
  obtain ⟨q, mem, member, zone, number⟩ := State.mem_members.mp hx
  have below : x.2 ≤ last := number ▸ above _ mem member zone
  simpa using below

/-- The search past a number in a zone's member list finds the member of the smallest number above it (R29). -/
theorem State.find?_members_least {s : State} (hc : Tbl.Canonical s.records) {z last h : Nat} {r : Record}
    (hr : s.rec? h = some r) (member : r.isMember = true) (zone : r.zone = z) (above : last < r.member)
    (least : ∀ g q, s.rec? g = some q → q.isMember = true → q.zone = z → last < q.member → g = h ∨ r.member < q.member) :
    (s.members z).find? (fun m => last < m.2) = some (h, r.member) := by
  refine find?_eq_some_of_least (key := Prod.snd) (sortBy_sorted _ _)
    (State.mem_members.mpr ⟨r, Tbl.mem_of_get hr, member, zone, rfl⟩) (by simpa using above) fun x hx px => ?_
  obtain ⟨g, m⟩ := x
  obtain ⟨q, mem, qmember, qzone, rfl⟩ := State.mem_members.mp hx
  have hq : s.rec? g = some q := Tbl.get_of_mem hc mem
  rcases least g q hq qmember qzone (by simpa using px) with rfl | greater
  · exact .inl (by rw [Option.some.inj (hq.symm.trans hr)])
  · exact .inr greater

theorem exec_openZonePage (s : State) (z : Nat) : exec (.openZonePage z) s = s.serve 7 fun s => s.openPage z := rfl

theorem exec_readNext (s : State) : exec .readNext s = s.serve 8 State.readNextMember := rfl

theorem State.openPage_outOfRange (s : State) {z : Nat} (hz : isZone z = false) :
    s.openPage z = (s, .refuseAt .outOfRange 1) := by
  simp [State.openPage, hz, Reply.outOfRange]

theorem State.openPage_undefined {s : State} {z : Nat} (hz : isZone z = true) (hn : s.zone? z = none) :
    s.openPage z = (s, .refuse .noSuchZone) := by
  simp [State.openPage, hz, hn]

theorem State.openPage_defined {s : State} {z : Nat} (hz : isZone z = true) (hd : (s.zone? z).isSome = true) :
    s.openPage z = (s.setCursor (some (z, 0)), .ok (.members (s.members z).length)) := by
  obtain ⟨zn, hzn⟩ := Option.isSome_iff_exists.mp hd
  simp [State.openPage, hz, hzn]

theorem State.readNextMember_closed {s : State} (hc : s.cursor = none) : s.readNextMember = (s, .refuse .noCursor) := by
  simp [State.readNextMember, hc]

theorem State.readNextMember_end {s : State} {z last : Nat} (hc : s.cursor = some (z, last))
    (none_left : (s.members z).find? (fun m => last < m.2) = none) : s.readNextMember = (s, .refuse .endOfPage) := by
  simp only [State.readNextMember, hc, none_left]

theorem State.readNextMember_found {s : State} {z last h m : Nat} {r : Record} (hc : s.cursor = some (z, last))
    (found : (s.members z).find? (fun m => last < m.2) = some (h, m)) (hr : s.rec? h = some r) :
    s.readNextMember = (s.setCursor (some (z, m)),
      .ok (.zoneSummary h m r.kind r.lifecycle r.link.state r.cond.latched r.cond.fire r.cond.faults r.disabled)) := by
  simp only [State.readNextMember, hc, found, hr]

/-- Settles O25: OPEN_ZONE_PAGE's cases by its checks; READ_NEXT's by what the search of the sorted member list past the
cursor's last member finds. -/
theorem zonePageWalksMembers : Obligations.ZonePageWalksMembers := by
  refine ⟨fun s z hw hz => ?outOfRange, fun s z hw hz hn => ?undefined, fun s z hw hz hd => ?opened,
    fun s hw hc => ?closed, fun s z last hw hc below => ?ended,
    fun s z last h r hs hw hc hr member zone above least => ?next⟩
  case outOfRange => rw [exec_openZonePage, State.serve_unchanged hw (State.openPage_outOfRange _ hz)]
  case undefined => rw [exec_openZonePage, State.serve_unchanged hw (State.openPage_undefined (s := s.takeRequest) hz hn)]
  case opened =>
    rw [exec_openZonePage, State.serve_setCursor hw (State.openPage_defined (s := s.takeRequest) hz hd),
      State.members_takeRequest, State.length_members]
  case closed => rw [exec_readNext, State.serve_unchanged hw (State.readNextMember_closed (s := s.takeRequest) hc)]
  case ended =>
    have none_left := State.find?_members_none below
    rw [exec_readNext, State.serve_unchanged hw (State.readNextMember_end (s := s.takeRequest) hc none_left)]
  case next =>
    have found := State.find?_members_least hs.records hr member zone above least
    rw [exec_readNext, State.serve_setCursor hw (State.readNextMember_found (s := s.takeRequest) hc found hr)]

end Sys2Proof.Machine
end

section
/-! DELETE_ZONE and READ_ZONE (R42, R43): a zone's member list in member order, each member once (R44). -/

namespace Sys2Proof.Machine

/-! ### A zone's member list -/

theorem State.members_eq_nil {s : State} {z : Nat}
    (empty : ∀ e ∈ s.records, e.2.isMember = true → e.2.zone ≠ z) : s.members z = [] := by
  refine List.eq_nil_iff_forall_not_mem.mpr fun x hx => ?_
  obtain ⟨q, mem, member, zone, -⟩ := State.mem_members.mp hx
  exact empty _ mem member zone

theorem State.members_ne_nil {s : State} {z : Nat} {e : Nat × Record} (mem : e ∈ s.records)
    (member : e.2.isMember = true) (zone : e.2.zone = z) : s.members z ≠ [] :=
  List.ne_nil_of_mem (a := (e.1, e.2.member)) (State.mem_members.mpr ⟨e.2, mem, member, zone, rfl⟩)

theorem State.members_ascending (s : State) (z : Nat) : ((s.members z).map Prod.snd).Pairwise (· ≤ ·) :=
  List.pairwise_map.mpr (sortBy_sorted _ _)

/-- Each member stands once: the list rearranges a part of the record table, which holds each handle once (R1). -/
theorem State.members_handles_nodup {s : State} (hc : Tbl.Canonical s.records) (z : Nat) :
    ((s.members z).map Prod.fst).Nodup := by
  have perm := (sortBy_perm Prod.snd ((s.records.filter fun e => e.2.isMember && e.2.zone == z).map
    fun e => (e.1, e.2.member))).map Prod.fst
  have part : ((s.records.filter fun e => e.2.isMember && e.2.zone == z).map Prod.fst).Nodup :=
    List.Nodup.sublist (List.filter_sublist.map _) (hc.imp Nat.ne_of_lt)
  exact perm.nodup_iff.mpr (by simpa [Function.comp_def] using part)

/-- Two members of one zone differ in their member numbers (R3), so the numbers rise strictly. -/
theorem State.members_strictly_ascending {s : State} (hs : RegistryLegal s) (z : Nat) :
    ((s.members z).map Prod.snd).Pairwise (· < ·) := by
  have nodup : (s.members z).Nodup := (State.members_handles_nodup hs.tables.records z).of_map
  have numbers : ((s.members z).map Prod.snd).Nodup := by
    refine nodup.map_on fun x hx y hy same => Prod.ext ?_ same
    obtain ⟨q, hq, qmember, qzone, qnumber⟩ := State.mem_members.mp hx
    obtain ⟨r, hr, rmember, rzone, rnumber⟩ := State.mem_members.mp hy
    exact hs.addresses _ _ q r (Tbl.get_of_mem hs.tables.records hq) (Tbl.get_of_mem hs.tables.records hr)
      qmember rmember (qzone.trans rzone.symm) (qnumber.trans (same.trans rnumber.symm))
  exact List.Pairwise.imp₂ (fun _ _ => lt_of_le_of_ne) (s.members_ascending z) numbers

/-- A zone's member list in a canonical record table, by the read of a record (R3, R44). -/
theorem State.mem_members_iff_rec? {s : State} (hc : Tbl.Canonical s.records) {z h m : Nat} :
    (h, m) ∈ s.members z ↔ ∃ r, s.rec? h = some r ∧ r.isMember = true ∧ r.zone = z ∧ r.member = m := by
  simp [State.mem_members, State.rec?, Tbl.get_eq_some_iff hc]

/-! ### DELETE_ZONE -/

theorem exec_deleteZone (z : Nat) (s : State) : exec (.deleteZone z) s = s.serve 11 fun s => s.deleteZone z := rfl

theorem State.deleteZone_outOfRange (s : State) {z : Nat} (hz : isZone z = false) :
    s.deleteZone z = (s, .refuseAt .outOfRange 1) := by
  simp [State.deleteZone, hz, Reply.outOfRange]

theorem State.deleteZone_undefined {s : State} {z : Nat} (hz : isZone z = true) (hn : s.zone? z = none) :
    s.deleteZone z = (s, .refuse .noSuchZone) := by
  simp [State.deleteZone, hz, hn]

theorem State.deleteZone_notEmpty {s : State} {z : Nat} (hz : isZone z = true) (hd : (s.zone? z).isSome = true)
    (some_left : s.members z ≠ []) :
    s.deleteZone z =
      (s, { result := .zoneNotEmpty, adjusted := [], payload := .members (s.members z).length }) := by
  simp [State.deleteZone, hz, Option.isSome_iff_ne_none.mp hd, some_left]

/-- An empty zone is undefined, and a page cursor that is open on it is closed (R30, R42). -/
theorem State.deleteZone_empty {s : State} {z : Nat} (hz : isZone z = true) (hd : (s.zone? z).isSome = true)
    (empty : s.members z = []) :
    s.deleteZone z =
      ((s.setZones (Tbl.drop s.zones z)).setCursor (s.cursor.filter fun c => c.1 != z), .ok .none) := by
  simp only [State.deleteZone, hz, Option.isNone_eq_false_iff.mpr hd, empty]
  cases open_on : s.cursor with
  | none => simp [State.setZones, State.setCursor, open_on]
  | some c =>
    by_cases on_z : c.1 = z <;> simp [State.setZones, State.setCursor, Option.filter, open_on, on_z]

/-- DELETE_ZONE of an empty zone changes the Zone Table, the page cursor and the port alone (R42). -/
theorem exec_deleteZone_empty {s : State} (hw : s.port.state ≠ .working) {z : Nat} (hz : isZone z = true)
    (hd : (s.zone? z).isSome = true) (empty : s.members z = []) :
    exec (.deleteZone z) s = .next { s with
      zones := Tbl.drop s.zones z,
      cursor := s.cursor.filter fun c => c.1 != z,
      port := s.port.answering 11 (.ok .none) } := by
  rw [exec_deleteZone, State.serve_taken hw, State.deleteZone_empty (s := s.takeRequest) hz hd empty]
  rfl

/-! ### READ_ZONE -/

/-- READ_ZONE taken: its answer is placed and nothing else changes (R43). -/
theorem exec_readZone {s : State} (hw : s.port.state ≠ .working) (z : Nat) :
    exec (.readZone z) s = .next (s.setPort (s.port.answering 12 (s.readZone z))) :=
  State.serveRead_taken hw 12 fun s => s.readZone z

theorem State.readZone_outOfRange (s : State) {z : Nat} (hz : isZone z = false) :
    s.readZone z = .refuseAt .outOfRange 1 := by
  simp [State.readZone, hz, Reply.outOfRange]

theorem State.readZone_undefined {s : State} {z : Nat} (hz : isZone z = true) (hn : s.zone? z = none) :
    s.readZone z = .refuse .noSuchZone := by
  simp [State.readZone, hz, hn]

theorem State.readZone_defined {s : State} {z : Nat} {zn : Zone} (hz : isZone z = true) (hd : s.zone? z = some zn) :
    s.readZone z = .ok (.zone zn (s.members z)) := by
  simp [State.readZone, hz, hd]

/-! ### Both together -/

/-- Settles O28: DELETE_ZONE's cases by its checks; READ_ZONE answers the member list, which is sorted by member number and
holds each member once. -/
theorem deleteAndReadZone : Obligations.DeleteAndReadZone := by
  refine ⟨fun s z hw hz => ?outOfRange, fun s z hw hz hn => ?undefined, fun s z hw hz hd empty => ?deleted,
    fun s z e hw hz hd mem member zone => ?notEmpty, fun s z zn hs hw hz hd => ?read⟩
  case outOfRange =>
    exact ⟨by rw [exec_deleteZone, State.serve_unchanged hw (State.deleteZone_outOfRange _ hz)],
      by rw [exec_readZone hw, State.readZone_outOfRange s hz]⟩
  case undefined =>
    exact ⟨by rw [exec_deleteZone, State.serve_unchanged hw (State.deleteZone_undefined (s := s.takeRequest) hz hn)],
      by rw [exec_readZone hw, State.readZone_undefined hz hn]⟩
  case deleted =>
    rw [exec_deleteZone_empty hw hz hd (State.members_eq_nil empty)]
    cases s.cursor with
    | none => rfl
    | some c => by_cases on_z : c.1 = z <;> simp [Option.filter, on_z, Reply.ok]
  case notEmpty =>
    have some_left : s.takeRequest.members z ≠ [] := State.members_ne_nil mem member zone
    rw [exec_deleteZone, State.serve_unchanged hw (State.deleteZone_notEmpty (s := s.takeRequest) hz hd some_left),
      State.members_takeRequest, State.length_members]
  case read =>
    exact ⟨s.members z, by rw [exec_readZone hw, State.readZone_defined hz hd], s.members_ascending z,
      State.members_handles_nodup hs.records z, fun legal => State.members_strictly_ascending legal z,
      fun h m => State.mem_members_iff_rec? hs.records⟩

end Sys2Proof.Machine
end

section
/-! The LQF step (4.2, R78): one eighth of the way to the goal an outcome sets, rounded toward minus infinity. -/

namespace Sys2Proof.Machine

/-! ### One eighth of the way -/

/-- The LQF an outcome pulls toward: 16 times the margin of a heard one, 0 for a missed one. -/
def lqfGoal (result : Result) (margin : Nat) : Nat := if result = .heard then 16 * margin else 0

/-- The LQF one step nearer to its goal; `lqfStep_some` ties it to the model's step. -/
def lqfToward (q goal : Nat) : Nat := ((q : Int) + ((goal : Int) - q) / 8).toNat

/-- The step is never cut off at 0: an eighth of a fall, rounded away from 0, is at most the whole LQF. -/
theorem lqfToward_cast (q goal : Nat) : (lqfToward q goal : Int) = q + ((goal : Int) - q) / 8 := by
  have nonneg : 0 ≤ (q : Int) + ((goal : Int) - q) / 8 := by omega
  exact Int.toNat_of_nonneg nonneg

/-- The integer division of the model is the rounding of R78: the floor of the exact quotient. -/
theorem lqfToward_cast_floor (q goal : Nat) :
    (lqfToward q goal : Int) = q + ⌊(((goal : Int) - q : Int) : ℚ) / 8⌋ := by
  have floor_eighth : ⌊(((goal : Int) - q : Int) : ℚ) / 8⌋ = ((goal : Int) - q) / 8 :=
    Rat.floor_intCast_div_natCast _ 8
  rw [lqfToward_cast, floor_eighth]

theorem lqfToward_of_goal_le {q goal : Nat} (above : goal ≤ q) : goal ≤ lqfToward q goal ∧ lqfToward q goal ≤ q := by
  have step := lqfToward_cast q goal
  omega

theorem lqfToward_of_le_goal {q goal : Nat} (below : q ≤ goal) : q ≤ lqfToward q goal ∧ lqfToward q goal ≤ goal := by
  have step := lqfToward_cast q goal
  omega

/-! ### The LQF step -/

@[simp] theorem lqfStep_none_heard (margin : Nat) : lqfStep none .heard margin = some (16 * margin) := rfl

@[simp] theorem lqfStep_none_missed (margin : Nat) : lqfStep none .missed margin = none := rfl

/-- A present LQF takes one step toward the outcome's goal. -/
theorem lqfStep_some (q : Nat) (result : Result) (margin : Nat) :
    lqfStep (some q) result margin = some (lqfToward q (lqfGoal result margin)) := by
  cases result with
  | heard => simp [lqfStep, lqfToward, lqfGoal]
  | missed => simp [lqfStep, lqfToward, lqfGoal]

/-- Settles O58: the seeding by the equations of `lqfStep`, the move by what `lqfToward` is, the range by `lqfStep_le`. -/
theorem lqfMovesTowardMargin : Obligations.LqfMovesTowardMargin := by
  refine ⟨lqfStep_none_heard, lqfStep_none_missed, fun q m result hq hm => ?present⟩
  have moved := lqfStep_some q result m
  have in_range : lqfToward q (lqfGoal result m) ≤ 1008 :=
    lqfStep_le hm (fun p hp => Option.some.inj hp ▸ hq) _ moved
  exact ⟨lqfToward q (lqfGoal result m), moved, lqfToward_cast_floor q _, in_range, lqfToward_of_goal_le,
    lqfToward_of_le_goal⟩

end Sys2Proof.Machine
end

section
/-! READ_CANDIDATES and DISMISS_CANDIDATE (6.3, R134, R135): the Candidate Table read and shortened. -/

namespace Sys2Proof.Machine

/-! ### The entry of a serial -/

/-- Where one entry alone has a serial, dropping that serial leaves the entries before and after it, in order. -/
theorem filter_serial_ne_of_alone {before after : List Candidate} {c : Candidate}
    (alone : ∀ x ∈ before ++ after, x.serial ≠ c.serial) :
    (before ++ c :: after).filter (fun x => x.serial != c.serial) = before ++ after := by
  have dropped : (before ++ c :: after).filter (fun x => x.serial != c.serial)
      = (before ++ after).filter (fun x => x.serial != c.serial) := by
    simp [List.filter_append]
  rw [dropped, List.filter_eq_self]
  simpa using alone

/-! ### READ_CANDIDATES -/

/-- READ_CANDIDATES taken: its answer is placed and nothing else changes (R134). -/
theorem exec_readCandidates {s : State} (hw : s.port.state ≠ .working) :
    exec .readCandidates s = .next (s.setPort (s.port.answering 18
      (.ok (.candidates s.commissioning.window s.commissioning.candidates)))) :=
  State.serveRead_taken hw 18 fun s => .ok (.candidates s.commissioning.window s.commissioning.candidates)

/-! ### DISMISS_CANDIDATE -/

/-- A request whose handling sets the commissioning block changes that block and the port alone (R174). -/
theorem State.serve_setCommissioning {s : State} (hw : s.port.state ≠ .working) {kind : Byte}
    {body : State → State × Reply} {x : Commissioning} {r : Reply}
    (hb : body s.takeRequest = (s.takeRequest.setCommissioning x, r)) :
    s.serve kind body = .next { s with commissioning := x, port := s.port.answering kind r } := by
  rw [State.serve_taken hw, hb]; rfl

theorem exec_dismissCandidate (serial : Serial) (s : State) :
    exec (.dismissCandidate serial) s = s.serve 19 fun s => s.dismissCandidate serial := rfl

theorem State.dismissCandidate_found {s : State} {before after : List Candidate} {c : Candidate}
    (table : s.commissioning.candidates = before ++ c :: after)
    (alone : ∀ x ∈ before ++ after, x.serial ≠ c.serial) :
    s.dismissCandidate c.serial =
      (s.setCommissioning { s.commissioning with candidates := before ++ after }, .ok .none) := by
  have found : s.commissioning.candidates.any (fun x => x.serial == c.serial) = true := by simp [table]
  rw [State.dismissCandidate, if_pos found, table, filter_serial_ne_of_alone alone]

theorem State.dismissCandidate_absent {s : State} {serial : Serial}
    (absent : ∀ x ∈ s.commissioning.candidates, x.serial ≠ serial) :
    s.dismissCandidate serial = (s, .refuse .noSuchRecord) := by
  have not_found : ¬ s.commissioning.candidates.any (fun x => x.serial == serial) = true := by simpa using absent
  rw [State.dismissCandidate, if_neg not_found]

/-- Settles O34: READ_CANDIDATES is a read; DISMISS_CANDIDATE's two cases by whether the table holds the serial, with what
dropping a serial leaves (filter_serial_ne_of_alone). -/
theorem candidatesReadAndDismissed : Obligations.CandidatesReadAndDismissed := by
  refine ⟨fun s hw => exec_readCandidates hw, fun s before after c hw table alone => ?dismissed,
    fun s serial hw absent => ?absent⟩
  case dismissed =>
    rw [exec_dismissCandidate,
      State.serve_setCommissioning hw (State.dismissCandidate_found (s := s.takeRequest) table alone)]
    rfl
  case absent =>
    rw [exec_dismissCandidate, State.serve_unchanged hw (State.dismissCandidate_absent (s := s.takeRequest) absent)]

end Sys2Proof.Machine
end

section
/-! DOWNLINK_SLOT (7.3, R143, R144, R137): the arbiter's choice among the eligible entries, and the slot it is served in. -/

namespace Sys2Proof.Machine

/-! ### Eligibility -/

/-- A cell of the frame is owned in any lane, so cadence and phase alone decide (R143). -/
theorem Record.ownsFrame_iff {r : Record} {frame : Nat} :
    r.ownsFrame frame = true ↔ ∃ a, (r.current = some a ∨ r.next = some a) ∧ frame % a.cadence = a.phase := by
  simp [Record.ownsFrame, Alloc.owns, or_and_right, exists_or]

theorem State.listening_iff {s : State} {hop : Nat} :
    s.listening hop = true ↔ hop ∈ s.markers ∨ ∃ r, s.rec? hop = some r
      ∧ (r.kind = .relay ∨ r.settings.parent = 0
          ∧ ∃ a, (r.current = some a ∨ r.next = some a) ∧ s.timer.frame % a.cadence = a.phase) := by
  cases found : s.rec? hop with
  | none => simp [State.listening, found]
  | some r => simp [State.listening, found, Record.isRelay, Record.ownsFrame_iff]

/-! ### The arbiter's choice -/

theorem mem_of_bestEntry {l : List QueueEntry} {b : QueueEntry} (best : bestEntry l = some b) : b ∈ l := by
  induction l with
  | nil => cases best
  | cons x t ih =>
    unfold bestEntry at best
    split at best
    case h_1 => exact Option.some.inj best ▸ List.mem_cons_self
    case h_2 later found =>
      split at best
      · exact List.mem_cons_of_mem x (ih (found.trans best))
      · exact Option.some.inj best ▸ List.mem_cons_self

/-- An entry that no later one undercuts is the best of a list it heads. -/
theorem bestEntry_cons_of_le {e : QueueEntry} {post : List QueueEntry} (after : ∀ x ∈ post, e.msg.rank ≤ x.msg.rank) :
    bestEntry (e :: post) = some e := by
  unfold bestEntry
  split
  case h_1 => rfl
  case h_2 b found => exact if_neg (Nat.not_lt.mpr (after b (mem_of_bestEntry found)))

/-- The smallest class wins over every entry before it, and keeps its place before those of its own class (R144). -/
theorem bestEntry_of_split {e : QueueEntry} {pre post : List QueueEntry} (before : ∀ x ∈ pre, e.msg.rank < x.msg.rank)
    (after : ∀ x ∈ post, e.msg.rank ≤ x.msg.rank) : bestEntry (pre ++ e :: post) = some e := by
  induction pre with
  | nil => exact bestEntry_cons_of_le after
  | cons x t ih =>
    obtain ⟨undercuts, rest⟩ := List.forall_mem_cons.mp before
    rw [List.cons_append, bestEntry, ih rest]
    exact if_pos undercuts

/-- The entries that are not eligible take no part in the choice (R144). -/
theorem State.chosen_of_split {s : State} {pre post : List QueueEntry} {e : QueueEntry}
    (queue : s.queue = pre ++ e :: post) (eligible : s.eligible e = true)
    (before : ∀ x ∈ pre, s.eligible x = true → e.msg.rank < x.msg.rank)
    (after : ∀ x ∈ post, s.eligible x = true → e.msg.rank ≤ x.msg.rank) : s.chosen = some e := by
  rw [State.chosen, queue, List.filter_append, List.filter_cons_of_pos eligible]
  exact bestEntry_of_split (fun x hx => before x (List.mem_filter.mp hx).1 (List.mem_filter.mp hx).2)
    fun x hx => after x (List.mem_filter.mp hx).1 (List.mem_filter.mp hx).2

theorem State.chosen_of_none_eligible {s : State} (none_eligible : ∀ e ∈ s.queue, s.eligible e = false) :
    s.chosen = none := by
  have no_candidate : s.queue.filter s.eligible = [] := by simpa using none_eligible
  rw [State.chosen, no_candidate]
  rfl

/-- The chosen entry itself leaves the queue: an equal one standing earlier would be eligible, and of its class. -/
theorem State.erase_of_split {s : State} {pre post : List QueueEntry} {e : QueueEntry}
    (queue : s.queue = pre ++ e :: post) (eligible : s.eligible e = true)
    (before : ∀ x ∈ pre, s.eligible x = true → e.msg.rank < x.msg.rank) : s.queue.erase e = pre ++ post := by
  have not_before : e ∉ pre := fun mem => Nat.lt_irrefl _ (before e mem eligible)
  rw [queue, List.erase_append_right _ not_before, List.erase_cons_head]

/-! ### The start of a downlink slot -/

/-- A record's announced allocation is the next one where it has one (R70). -/
theorem Record.announced_eq (r : Record) : r.announced = if r.next.isSome then r.next else r.current := by
  cases next : r.next <;> simp [Record.announced, next]

theorem State.arbitrate_idle {s : State} (idle : s.chosen = none) : s.arbitrate = s.setAir none := by
  simp only [State.arbitrate, idle]

theorem State.arbitrate_served {s : State} {e : QueueEntry} {r : Record} (chosen : s.chosen = some e)
    (hr : s.rec? e.dest = some r) :
    s.arbitrate =
      (s.transmit (.downlink (s.firstHop e.dest) e.dest (s.downBody e.dest r e.msg))).setQueue (s.queue.erase e) := by
  simp only [State.arbitrate, chosen, hr]

theorem State.arbitrate_timer (s : State) : s.arbitrate.timer = s.timer := by
  unfold State.arbitrate
  split
  case h_1 => rfl
  case h_2 => split <;> rfl

/-- The arbiter serves slot 18 when the downlink is due and slot 19 after it (R55, R144). -/
theorem exec_downlinkSlot {s : State} (starts : s.timer.phase = .downlinkDue ∨ s.timer.phase = .inSlot 18) :
    exec .downlinkSlot s = .next (s.arbitrate.setTimer { s.timer with
      phase := if s.timer.phase = .downlinkDue then .inSlot 18 else .inSlot 19 }) := by
  change execDownlinkSlot s = _
  rcases starts with due | eighteen
  · simp [execDownlinkSlot, State.inSlot, State.arbitrate_timer, due]
  · simp [execDownlinkSlot, State.inSlot, State.arbitrate_timer, eighteen]

/-- Settles O52: eligibility by `State.listening_iff`; the arbiter's choice by the class order of the split queue, and the
idle slot by the want of a candidate. -/
theorem downlinkSlotServesTheBest : Obligations.DownlinkSlotServesTheBest := by
  refine ⟨fun s e => State.listening_iff, fun s pre post e r starts queue eligible hr before after => ?served,
    fun s starts none_eligible => ?idle⟩
  case served =>
    have chosen := State.chosen_of_split queue eligible before after
    have remaining := State.erase_of_split queue eligible before
    rw [exec_downlinkSlot starts, State.arbitrate_served chosen hr, remaining, ← Record.announced_eq]
    cases e.msg <;> rfl
  case idle =>
    rw [exec_downlinkSlot starts, State.arbitrate_idle (State.chosen_of_none_eligible none_eligible)]
    rfl

end Sys2Proof.Machine
end

section
/-! TAKE_ATTENTION (9.4, R168, R169): the Attention List's first entry taken, with what its target's summary says. -/

namespace Sys2Proof.Machine

/-! ### The summary of a target -/

theorem State.summary_vacant {s : State} {h : Nat} (hr : s.rec? h = none) : s.summary (.record h) = .vacant := by
  simp only [State.summary, hr]

theorem State.summary_record {s : State} {h : Nat} {r : Record} (hr : s.rec? h = some r) :
    s.summary (.record h) = .record r.lifecycle r.kind r.zone r.member r.disabled r.link.state r.cond.fire
      r.cond.latched r.cond.faults r.cond.battery r.version r.cond.reportedVersion := by
  simp only [State.summary, hr]

theorem State.summary_undefinedZone {s : State} {z : Nat} (hn : s.zone? z = none) :
    s.summary (.zone z) = .undefinedZone := by
  simp only [State.summary, hn]

/-- A defined zone's summary counts its PENDING and ACTIVE members (R44, R169). -/
theorem State.summary_zone {s : State} {z : Nat} {zn : Zone} (hd : s.zone? z = some zn) :
    s.summary (.zone z) = .zone zn (s.records.filter fun e => e.2.isMember && e.2.zone == z).length := by
  simp only [State.summary, hd, State.length_members]

@[simp] theorem State.summary_takeRequest (s : State) (x : Target) : s.takeRequest.summary x = s.summary x := rfl

/-! ### TAKE_ATTENTION -/

theorem State.takeAttention_empty {s : State} (empty : s.attention.entries = []) :
    s.takeAttention = (s, { result := .empty, adjusted := [], payload := .flags s.attention.flags }) := by
  simp only [State.takeAttention, empty]

theorem State.takeAttention_first {s : State} {e : AttnEntry} {rest : List AttnEntry}
    (list : s.attention.entries = e :: rest) :
    s.takeAttention = (s.setAttention { s.attention with entries := rest },
      .ok (.attention s.attention.flags e rest.length (s.summary e.target))) := by
  simp only [State.takeAttention, list]

/-- A request whose handling sets the Attention Unit changes that unit and the port alone (R174). -/
theorem State.serve_setAttention {s : State} (hw : s.port.state ≠ .working) {kind : Byte}
    {body : State → State × Reply} {x : Attention} {r : Reply}
    (hb : body s.takeRequest = (s.takeRequest.setAttention x, r)) :
    s.serve kind body = .next { s with attention := x, port := s.port.answering kind r } := by
  rw [State.serve_taken hw, hb]; rfl

theorem exec_takeAttention (s : State) : exec .takeAttention s = s.serve 24 State.takeAttention := rfl

/-- TAKE_ATTENTION with the list empty: the port alone changes (R168). -/
theorem exec_takeAttention_empty {s : State} (hw : s.port.state ≠ .working) (empty : s.attention.entries = []) :
    exec .takeAttention s = .next (s.setPort (s.port.answering 24
      { result := .empty, adjusted := [], payload := .flags s.attention.flags })) := by
  rw [exec_takeAttention, State.serve_unchanged hw (State.takeAttention_empty (s := s.takeRequest) empty)]
  rfl

/-- TAKE_ATTENTION with an entry on the list: the entry leaves it and is answered with its target's summary (R168, R169). -/
theorem exec_takeAttention_first {s : State} {e : AttnEntry} {rest : List AttnEntry} (hw : s.port.state ≠ .working)
    (list : s.attention.entries = e :: rest) :
    exec .takeAttention s = .next { s with
      attention := { s.attention with entries := rest },
      port := s.port.answering 24 (.ok (.attention s.attention.flags e rest.length (s.summary e.target))) } := by
  rw [exec_takeAttention, State.serve_setAttention hw (State.takeAttention_first (s := s.takeRequest) list),
    State.summary_takeRequest]
  rfl

/-- Settles O38: TAKE_ATTENTION by whether the list holds an entry; the summary answered is `State.summary` of the entry's
target, with one equation for each of the four ways a target may stand. -/
theorem takeAttentionTakesTheFirst : Obligations.TakeAttentionTakesTheFirst := by
  refine ⟨fun s hw empty => exec_takeAttention_empty hw empty, fun s e rest hw list =>
    ⟨s.summary e.target, exec_takeAttention_first hw list, fun h target hr => ?vacant, fun h r target hr => ?record,
      fun z target hn => ?undefinedZone, fun z zn target hd => ?zone⟩⟩
  case vacant => rw [target, State.summary_vacant hr]
  case record => rw [target, State.summary_record hr]
  case undefinedZone => rw [target, State.summary_undefinedZone hn]
  case zone => rw [target, State.summary_zone hd]

end Sys2Proof.Machine
end
